-- ==== Sys2Proof/Word.lean ====
section
/-! DEFINITION. The two word types of the machine: a byte of memory or of a data register, and a 16-bit address (00_scope.md R3). -/

namespace Sys2Proof

/-- A byte: a memory cell, or one of A, X, Y, S (00_scope.md R3). -/
abbrev Byte := BitVec 8

/-- A 16-bit address, or the program counter (00_scope.md R3). -/
abbrev Addr := BitVec 16

end Sys2Proof
end

