-- ==== Sys2Proof/Syntax.lean ====
section
/-! DEFINITION. The instructions: one constructor per row of spec/opcode_table.json (30_encoding.md R63), in the families'
order (R62). A constructor is the row's mnemonic, followed by the row's format (R61) where the mnemonic has several rows.
Operand fields are already assembled (30_encoding.md section 2): an immediate byte, a zero-page address byte, a 16-bit address,
or a signed branch displacement (log 17). -/

namespace Sys2Proof

inductive Instr where
  -- Load and store (40_load_store.md)
  /-- `LDA #Oper`, opcode $A9 (R100). -/
  | ldaImm (v : Byte)
  /-- `LDA Zpg`, opcode $A5 (R100). -/
  | ldaZpg (zp : Byte)
  /-- `LDA Zpg,X`, opcode $B5 (R100). -/
  | ldaZpx (zp : Byte)
  /-- `LDA Abs`, opcode $AD (R100). -/
  | ldaAbs (a : Addr)
  /-- `LDA Abs,X`, opcode $BD (R100). -/
  | ldaAbx (a : Addr)
  /-- `LDA Abs,Y`, opcode $B9 (R100). -/
  | ldaAby (a : Addr)
  /-- `LDA (Zpg,X)`, opcode $A1 (R100). -/
  | ldaIzx (zp : Byte)
  /-- `LDA (Zpg),Y`, opcode $B1 (R100). -/
  | ldaIzy (zp : Byte)
  /-- `LDA (Zpg)`, opcode $B2 (R100). -/
  | ldaIzp (zp : Byte)
  /-- `LDX #Oper`, opcode $A2 (R101). -/
  | ldxImm (v : Byte)
  /-- `LDX Zpg`, opcode $A6 (R101). -/
  | ldxZpg (zp : Byte)
  /-- `LDX Zpg,Y`, opcode $B6 (R101). -/
  | ldxZpy (zp : Byte)
  /-- `LDX Abs`, opcode $AE (R101). -/
  | ldxAbs (a : Addr)
  /-- `LDX Abs,Y`, opcode $BE (R101). -/
  | ldxAby (a : Addr)
  /-- `LDY #Oper`, opcode $A0 (R102). -/
  | ldyImm (v : Byte)
  /-- `LDY Zpg`, opcode $A4 (R102). -/
  | ldyZpg (zp : Byte)
  /-- `LDY Zpg,X`, opcode $B4 (R102). -/
  | ldyZpx (zp : Byte)
  /-- `LDY Abs`, opcode $AC (R102). -/
  | ldyAbs (a : Addr)
  /-- `LDY Abs,X`, opcode $BC (R102). -/
  | ldyAbx (a : Addr)
  /-- `STA Zpg`, opcode $85 (R103). -/
  | staZpg (zp : Byte)
  /-- `STA Zpg,X`, opcode $95 (R103). -/
  | staZpx (zp : Byte)
  /-- `STA Abs`, opcode $8D (R103). -/
  | staAbs (a : Addr)
  /-- `STA Abs,X`, opcode $9D (R103). -/
  | staAbx (a : Addr)
  /-- `STA Abs,Y`, opcode $99 (R103). -/
  | staAby (a : Addr)
  /-- `STA (Zpg,X)`, opcode $81 (R103). -/
  | staIzx (zp : Byte)
  /-- `STA (Zpg),Y`, opcode $91 (R103). -/
  | staIzy (zp : Byte)
  /-- `STA (Zpg)`, opcode $92 (R103). -/
  | staIzp (zp : Byte)
  /-- `STX Zpg`, opcode $86 (R104). -/
  | stxZpg (zp : Byte)
  /-- `STX Zpg,Y`, opcode $96 (R104). -/
  | stxZpy (zp : Byte)
  /-- `STX Abs`, opcode $8E (R104). -/
  | stxAbs (a : Addr)
  /-- `STY Zpg`, opcode $84 (R105). -/
  | styZpg (zp : Byte)
  /-- `STY Zpg,X`, opcode $94 (R105). -/
  | styZpx (zp : Byte)
  /-- `STY Abs`, opcode $8C (R105). -/
  | styAbs (a : Addr)
  /-- `STZ Zpg`, opcode $64 (R106). -/
  | stzZpg (zp : Byte)
  /-- `STZ Zpg,X`, opcode $74 (R106). -/
  | stzZpx (zp : Byte)
  /-- `STZ Abs`, opcode $9C (R106). -/
  | stzAbs (a : Addr)
  /-- `STZ Abs,X`, opcode $9E (R106). -/
  | stzAbx (a : Addr)
  -- Stack (41_stack.md)
  /-- `PHA`, opcode $48 (R110). -/
  | pha
  /-- `PHX`, opcode $DA (R111). -/
  | phx
  /-- `PHY`, opcode $5A (R112). -/
  | phy
  /-- `PHP`, opcode $08 (R113). -/
  | php
  /-- `PLA`, opcode $68 (R114). -/
  | pla
  /-- `PLX`, opcode $FA (R115). -/
  | plx
  /-- `PLY`, opcode $7A (R116). -/
  | ply
  /-- `PLP`, opcode $28 (R117). -/
  | plp
  /-- `TSX`, opcode $BA (R118). -/
  | tsx
  /-- `TXS`, opcode $9A (R119). -/
  | txs
  -- Increment and decrement (42_inc_dec.md)
  /-- `INA`, opcode $1A (R130). -/
  | ina
  /-- `INX`, opcode $E8 (R131). -/
  | inx
  /-- `INY`, opcode $C8 (R132). -/
  | iny
  /-- `DEA`, opcode $3A (R133). -/
  | dea
  /-- `DEX`, opcode $CA (R134). -/
  | dex
  /-- `DEY`, opcode $88 (R135). -/
  | dey
  /-- `INC Zpg`, opcode $E6 (R136). -/
  | incZpg (zp : Byte)
  /-- `INC Zpg,X`, opcode $F6 (R136). -/
  | incZpx (zp : Byte)
  /-- `INC Abs`, opcode $EE (R136). -/
  | incAbs (a : Addr)
  /-- `INC Abs,X`, opcode $FE (R136). -/
  | incAbx (a : Addr)
  /-- `DEC Zpg`, opcode $C6 (R137). -/
  | decZpg (zp : Byte)
  /-- `DEC Zpg,X`, opcode $D6 (R137). -/
  | decZpx (zp : Byte)
  /-- `DEC Abs`, opcode $CE (R137). -/
  | decAbs (a : Addr)
  /-- `DEC Abs,X`, opcode $DE (R137). -/
  | decAbx (a : Addr)
  -- Shift (43_shift.md)
  /-- `ASL A`, opcode $0A (R140). -/
  | aslAcc
  /-- `ASL Zpg`, opcode $06 (R140). -/
  | aslZpg (zp : Byte)
  /-- `ASL Zpg,X`, opcode $16 (R140). -/
  | aslZpx (zp : Byte)
  /-- `ASL Abs`, opcode $0E (R140). -/
  | aslAbs (a : Addr)
  /-- `ASL Abs,X`, opcode $1E (R140). -/
  | aslAbx (a : Addr)
  /-- `LSR A`, opcode $4A (R141). -/
  | lsrAcc
  /-- `LSR Zpg`, opcode $46 (R141). -/
  | lsrZpg (zp : Byte)
  /-- `LSR Zpg,X`, opcode $56 (R141). -/
  | lsrZpx (zp : Byte)
  /-- `LSR Abs`, opcode $4E (R141). -/
  | lsrAbs (a : Addr)
  /-- `LSR Abs,X`, opcode $5E (R141). -/
  | lsrAbx (a : Addr)
  /-- `ROL A`, opcode $2A (R142). -/
  | rolAcc
  /-- `ROL Zpg`, opcode $26 (R142). -/
  | rolZpg (zp : Byte)
  /-- `ROL Zpg,X`, opcode $36 (R142). -/
  | rolZpx (zp : Byte)
  /-- `ROL Abs`, opcode $2E (R142). -/
  | rolAbs (a : Addr)
  /-- `ROL Abs,X`, opcode $3E (R142). -/
  | rolAbx (a : Addr)
  /-- `ROR A`, opcode $6A (R143). -/
  | rorAcc
  /-- `ROR Zpg`, opcode $66 (R143). -/
  | rorZpg (zp : Byte)
  /-- `ROR Zpg,X`, opcode $76 (R143). -/
  | rorZpx (zp : Byte)
  /-- `ROR Abs`, opcode $6E (R143). -/
  | rorAbs (a : Addr)
  /-- `ROR Abs,X`, opcode $7E (R143). -/
  | rorAbx (a : Addr)
  -- Logical (44_logical.md)
  /-- `AND #Oper`, opcode $29 (R150). -/
  | andImm (v : Byte)
  /-- `AND Zpg`, opcode $25 (R150). -/
  | andZpg (zp : Byte)
  /-- `AND Zpg,X`, opcode $35 (R150). -/
  | andZpx (zp : Byte)
  /-- `AND Abs`, opcode $2D (R150). -/
  | andAbs (a : Addr)
  /-- `AND Abs,X`, opcode $3D (R150). -/
  | andAbx (a : Addr)
  /-- `AND Abs,Y`, opcode $39 (R150). -/
  | andAby (a : Addr)
  /-- `AND (Zpg,X)`, opcode $21 (R150). -/
  | andIzx (zp : Byte)
  /-- `AND (Zpg),Y`, opcode $31 (R150). -/
  | andIzy (zp : Byte)
  /-- `AND (Zpg)`, opcode $32 (R150). -/
  | andIzp (zp : Byte)
  /-- `ORA #Oper`, opcode $09 (R151). -/
  | oraImm (v : Byte)
  /-- `ORA Zpg`, opcode $05 (R151). -/
  | oraZpg (zp : Byte)
  /-- `ORA Zpg,X`, opcode $15 (R151). -/
  | oraZpx (zp : Byte)
  /-- `ORA Abs`, opcode $0D (R151). -/
  | oraAbs (a : Addr)
  /-- `ORA Abs,X`, opcode $1D (R151). -/
  | oraAbx (a : Addr)
  /-- `ORA Abs,Y`, opcode $19 (R151). -/
  | oraAby (a : Addr)
  /-- `ORA (Zpg,X)`, opcode $01 (R151). -/
  | oraIzx (zp : Byte)
  /-- `ORA (Zpg),Y`, opcode $11 (R151). -/
  | oraIzy (zp : Byte)
  /-- `ORA (Zpg)`, opcode $12 (R151). -/
  | oraIzp (zp : Byte)
  /-- `EOR #Oper`, opcode $49 (R152). -/
  | eorImm (v : Byte)
  /-- `EOR Zpg`, opcode $45 (R152). -/
  | eorZpg (zp : Byte)
  /-- `EOR Zpg,X`, opcode $55 (R152). -/
  | eorZpx (zp : Byte)
  /-- `EOR Abs`, opcode $4D (R152). -/
  | eorAbs (a : Addr)
  /-- `EOR Abs,X`, opcode $5D (R152). -/
  | eorAbx (a : Addr)
  /-- `EOR Abs,Y`, opcode $59 (R152). -/
  | eorAby (a : Addr)
  /-- `EOR (Zpg,X)`, opcode $41 (R152). -/
  | eorIzx (zp : Byte)
  /-- `EOR (Zpg),Y`, opcode $51 (R152). -/
  | eorIzy (zp : Byte)
  /-- `EOR (Zpg)`, opcode $52 (R152). -/
  | eorIzp (zp : Byte)
  /-- `BIT #Oper`, opcode $89 (R153). -/
  | bitImm (v : Byte)
  /-- `BIT Zpg`, opcode $24 (R153). -/
  | bitZpg (zp : Byte)
  /-- `BIT Zpg,X`, opcode $34 (R153). -/
  | bitZpx (zp : Byte)
  /-- `BIT Abs`, opcode $2C (R153). -/
  | bitAbs (a : Addr)
  /-- `BIT Abs,X`, opcode $3C (R153). -/
  | bitAbx (a : Addr)
  /-- `CMP #Oper`, opcode $C9 (R154). -/
  | cmpImm (v : Byte)
  /-- `CMP Zpg`, opcode $C5 (R154). -/
  | cmpZpg (zp : Byte)
  /-- `CMP Zpg,X`, opcode $D5 (R154). -/
  | cmpZpx (zp : Byte)
  /-- `CMP Abs`, opcode $CD (R154). -/
  | cmpAbs (a : Addr)
  /-- `CMP Abs,X`, opcode $DD (R154). -/
  | cmpAbx (a : Addr)
  /-- `CMP Abs,Y`, opcode $D9 (R154). -/
  | cmpAby (a : Addr)
  /-- `CMP (Zpg,X)`, opcode $C1 (R154). -/
  | cmpIzx (zp : Byte)
  /-- `CMP (Zpg),Y`, opcode $D1 (R154). -/
  | cmpIzy (zp : Byte)
  /-- `CMP (Zpg)`, opcode $D2 (R154). -/
  | cmpIzp (zp : Byte)
  /-- `CPX #Oper`, opcode $E0 (R155). -/
  | cpxImm (v : Byte)
  /-- `CPX Zpg`, opcode $E4 (R155). -/
  | cpxZpg (zp : Byte)
  /-- `CPX Abs`, opcode $EC (R155). -/
  | cpxAbs (a : Addr)
  /-- `CPY #Oper`, opcode $C0 (R156). -/
  | cpyImm (v : Byte)
  /-- `CPY Zpg`, opcode $C4 (R156). -/
  | cpyZpg (zp : Byte)
  /-- `CPY Abs`, opcode $CC (R156). -/
  | cpyAbs (a : Addr)
  /-- `TRB Zpg`, opcode $14 (R157). -/
  | trbZpg (zp : Byte)
  /-- `TRB Abs`, opcode $1C (R157). -/
  | trbAbs (a : Addr)
  /-- `TSB Zpg`, opcode $04 (R158). -/
  | tsbZpg (zp : Byte)
  /-- `TSB Abs`, opcode $0C (R158). -/
  | tsbAbs (a : Addr)
  -- Math (45_math.md)
  /-- `ADC #Oper`, opcode $69 (R165). -/
  | adcImm (v : Byte)
  /-- `ADC Zpg`, opcode $65 (R165). -/
  | adcZpg (zp : Byte)
  /-- `ADC Zpg,X`, opcode $75 (R165). -/
  | adcZpx (zp : Byte)
  /-- `ADC Abs`, opcode $6D (R165). -/
  | adcAbs (a : Addr)
  /-- `ADC Abs,X`, opcode $7D (R165). -/
  | adcAbx (a : Addr)
  /-- `ADC Abs,Y`, opcode $79 (R165). -/
  | adcAby (a : Addr)
  /-- `ADC (Zpg,X)`, opcode $61 (R165). -/
  | adcIzx (zp : Byte)
  /-- `ADC (Zpg),Y`, opcode $71 (R165). -/
  | adcIzy (zp : Byte)
  /-- `ADC (Zpg)`, opcode $72 (R165). -/
  | adcIzp (zp : Byte)
  /-- `SBC #Oper`, opcode $E9 (R166). -/
  | sbcImm (v : Byte)
  /-- `SBC Zpg`, opcode $E5 (R166). -/
  | sbcZpg (zp : Byte)
  /-- `SBC Zpg,X`, opcode $F5 (R166). -/
  | sbcZpx (zp : Byte)
  /-- `SBC Abs`, opcode $ED (R166). -/
  | sbcAbs (a : Addr)
  /-- `SBC Abs,X`, opcode $FD (R166). -/
  | sbcAbx (a : Addr)
  /-- `SBC Abs,Y`, opcode $F9 (R166). -/
  | sbcAby (a : Addr)
  /-- `SBC (Zpg,X)`, opcode $E1 (R166). -/
  | sbcIzx (zp : Byte)
  /-- `SBC (Zpg),Y`, opcode $F1 (R166). -/
  | sbcIzy (zp : Byte)
  /-- `SBC (Zpg)`, opcode $F2 (R166). -/
  | sbcIzp (zp : Byte)
  -- Flow control (46_flow.md)
  /-- `JMP Abs`, opcode $4C (R180). -/
  | jmpAbs (a : Addr)
  /-- `JMP (Abs)`, opcode $6C (R180). -/
  | jmpInd (p : Addr)
  /-- `JMP (Abs,X)`, opcode $7C (R180). -/
  | jmpIax (p : Addr)
  /-- `JSR Abs`, opcode $20 (R182). -/
  | jsr (a : Addr)
  /-- `RTS`, opcode $60 (R183). -/
  | rts
  /-- `RTI`, opcode $40 (R184). -/
  | rti
  /-- `BRA Oper`, opcode $80 (R185). -/
  | bra (d : Int)
  /-- `BEQ Oper`, opcode $F0 (R186). -/
  | beq (d : Int)
  /-- `BNE Oper`, opcode $D0 (R187). -/
  | bne (d : Int)
  /-- `BCC Oper`, opcode $90 (R188). -/
  | bcc (d : Int)
  /-- `BCS Oper`, opcode $B0 (R189). -/
  | bcs (d : Int)
  /-- `BVC Oper`, opcode $50 (R190). -/
  | bvc (d : Int)
  /-- `BVS Oper`, opcode $70 (R191). -/
  | bvs (d : Int)
  /-- `BMI Oper`, opcode $30 (R192). -/
  | bmi (d : Int)
  /-- `BPL Oper`, opcode $10 (R193). -/
  | bpl (d : Int)
  -- Processor status (47_status.md)
  /-- `CLC`, opcode $18 (R200). -/
  | clc
  /-- `CLD`, opcode $D8 (R201). -/
  | cld
  /-- `CLI`, opcode $58 (R202). -/
  | cli
  /-- `CLV`, opcode $B8 (R203). -/
  | clv
  /-- `SEC`, opcode $38 (R204). -/
  | sec
  /-- `SED`, opcode $F8 (R205). -/
  | sed
  /-- `SEI`, opcode $78 (R206). -/
  | sei
  -- Transfer (48_transfer.md)
  /-- `TAX`, opcode $AA (R210). -/
  | tax
  /-- `TAY`, opcode $A8 (R211). -/
  | tay
  /-- `TXA`, opcode $8A (R212). -/
  | txa
  /-- `TYA`, opcode $98 (R213). -/
  | tya
  -- Miscellaneous (49_misc.md)
  /-- `NOP`, opcode $EA (R220). -/
  | nop
  /-- `BRK`, opcode $00 (R221). -/
  | brk
  deriving DecidableEq, Repr

end Sys2Proof
end

