-- ==== Sys2Proof/Machine/Forms.lean ====
section
/-! DEFINITION. The columns of the opcode map that name an instruction's mnemonic, its operand and its format
(30_encoding.md R61, R62, R63), and the shapes of operand the meanings share. -/

namespace Sys2Proof

/-- The 66 mnemonics (30_encoding.md R62). -/
inductive Mnemonic where
  | lda | ldx | ldy | sta | stx | sty | stz
  | pha | phx | phy | php | pla | plx | ply | plp | tsx | txs
  | ina | inx | iny | dea | dex | dey | inc | dec
  | asl | lsr | rol | ror
  | and | ora | eor | bit | cmp | cpx | cpy | trb | tsb
  | adc | sbc
  | jmp | jsr | rts | rti | bra | beq | bne | bcc | bcs | bvc | bvs | bmi | bpl
  | clc | cld | cli | clv | sec | sed | sei
  | tax | tay | txa | tya
  | nop | brk
  deriving DecidableEq, Repr

/-- The fifteen formats (30_encoding.md R61). -/
inductive Format where
  | imp | acc | imm | zpg | zpx | zpy | rel | izx | izy | izp | abs | abx | aby | ind | iax
  deriving DecidableEq, Repr

/-- The number of bytes of an instruction of a format (30_encoding.md R61). -/
def Format.size : Format → Nat
  | .imp | .acc => 1
  | .imm | .zpg | .zpx | .zpy | .rel | .izx | .izy | .izp => 2
  | .abs | .abx | .aby | .ind | .iax => 3

/-- The nine modes that give the effective address of an operand in memory (30_encoding.md R73 to R78, R80, R82, R83). -/
inductive MemMode where
  /-- `Zpg` (R74). -/
  | zpg (zp : Byte)
  /-- `Zpg,X` (R75). -/
  | zpx (zp : Byte)
  /-- `Zpg,Y` (R76). -/
  | zpy (zp : Byte)
  /-- `(Zpg,X)` (R80). -/
  | izx (zp : Byte)
  /-- `(Zpg),Y` (R82). -/
  | izy (zp : Byte)
  /-- `(Zpg)` (R83). -/
  | izp (zp : Byte)
  /-- `Abs` (R73). -/
  | abs (a : Addr)
  /-- `Abs,X` (R77). -/
  | abx (a : Addr)
  /-- `Abs,Y` (R78). -/
  | aby (a : Addr)
  deriving DecidableEq, Repr

/-- Where an instruction that only reads takes its operand `M`: the immediate byte or memory (30_encoding.md R72 to R83). -/
inductive Source where
  | imm (v : Byte)
  | mem (m : MemMode)
  deriving DecidableEq, Repr

/-- What a shift or rotate works on: A, or a byte of memory (30_encoding.md R71). -/
inductive Place where
  | acc
  | mem (m : MemMode)
  deriving DecidableEq, Repr

/-- The operand of an instruction, in any of the fifteen modes (30_encoding.md R70 to R84). -/
inductive Operand where
  | imp
  | acc
  | imm (v : Byte)
  | mem (m : MemMode)
  | rel (d : Int)
  | ind (p : Addr)
  | iax (p : Addr)
  deriving DecidableEq, Repr

def MemMode.format : MemMode → Format
  | .zpg _ => .zpg
  | .zpx _ => .zpx
  | .zpy _ => .zpy
  | .izx _ => .izx
  | .izy _ => .izy
  | .izp _ => .izp
  | .abs _ => .abs
  | .abx _ => .abx
  | .aby _ => .aby

def Operand.format : Operand → Format
  | .imp => .imp
  | .acc => .acc
  | .imm _ => .imm
  | .mem m => m.format
  | .rel _ => .rel
  | .ind _ => .ind
  | .iax _ => .iax

def MemMode.size (m : MemMode) : Nat := m.format.size

def Source.size : Source → Nat
  | .imm _ => 2
  | .mem m => m.size

def Place.size : Place → Nat
  | .acc => 1
  | .mem m => m.size

def Operand.source? : Operand → Option Source
  | .imm v => some (.imm v)
  | .mem m => some (.mem m)
  | .imp | .acc | .rel _ | .ind _ | .iax _ => none

def Operand.place? : Operand → Option Place
  | .acc => some .acc
  | .mem m => some (.mem m)
  | .imp | .imm _ | .rel _ | .ind _ | .iax _ => none

/-- The mnemonic column of the opcode map (30_encoding.md R63). -/
def Instr.mnemonic : Instr → Mnemonic
  | .ldaImm _ | .ldaZpg _ | .ldaZpx _ | .ldaAbs _ | .ldaAbx _ | .ldaAby _ | .ldaIzx _ | .ldaIzy _ | .ldaIzp _ => .lda
  | .ldxImm _ | .ldxZpg _ | .ldxZpy _ | .ldxAbs _ | .ldxAby _ => .ldx
  | .ldyImm _ | .ldyZpg _ | .ldyZpx _ | .ldyAbs _ | .ldyAbx _ => .ldy
  | .staZpg _ | .staZpx _ | .staAbs _ | .staAbx _ | .staAby _ | .staIzx _ | .staIzy _ | .staIzp _ => .sta
  | .stxZpg _ | .stxZpy _ | .stxAbs _ => .stx
  | .styZpg _ | .styZpx _ | .styAbs _ => .sty
  | .stzZpg _ | .stzZpx _ | .stzAbs _ | .stzAbx _ => .stz
  | .pha => .pha
  | .phx => .phx
  | .phy => .phy
  | .php => .php
  | .pla => .pla
  | .plx => .plx
  | .ply => .ply
  | .plp => .plp
  | .tsx => .tsx
  | .txs => .txs
  | .ina => .ina
  | .inx => .inx
  | .iny => .iny
  | .dea => .dea
  | .dex => .dex
  | .dey => .dey
  | .incZpg _ | .incZpx _ | .incAbs _ | .incAbx _ => .inc
  | .decZpg _ | .decZpx _ | .decAbs _ | .decAbx _ => .dec
  | .aslAcc | .aslZpg _ | .aslZpx _ | .aslAbs _ | .aslAbx _ => .asl
  | .lsrAcc | .lsrZpg _ | .lsrZpx _ | .lsrAbs _ | .lsrAbx _ => .lsr
  | .rolAcc | .rolZpg _ | .rolZpx _ | .rolAbs _ | .rolAbx _ => .rol
  | .rorAcc | .rorZpg _ | .rorZpx _ | .rorAbs _ | .rorAbx _ => .ror
  | .andImm _ | .andZpg _ | .andZpx _ | .andAbs _ | .andAbx _ | .andAby _ | .andIzx _ | .andIzy _ | .andIzp _ => .and
  | .oraImm _ | .oraZpg _ | .oraZpx _ | .oraAbs _ | .oraAbx _ | .oraAby _ | .oraIzx _ | .oraIzy _ | .oraIzp _ => .ora
  | .eorImm _ | .eorZpg _ | .eorZpx _ | .eorAbs _ | .eorAbx _ | .eorAby _ | .eorIzx _ | .eorIzy _ | .eorIzp _ => .eor
  | .bitImm _ | .bitZpg _ | .bitZpx _ | .bitAbs _ | .bitAbx _ => .bit
  | .cmpImm _ | .cmpZpg _ | .cmpZpx _ | .cmpAbs _ | .cmpAbx _ | .cmpAby _ | .cmpIzx _ | .cmpIzy _ | .cmpIzp _ => .cmp
  | .cpxImm _ | .cpxZpg _ | .cpxAbs _ => .cpx
  | .cpyImm _ | .cpyZpg _ | .cpyAbs _ => .cpy
  | .trbZpg _ | .trbAbs _ => .trb
  | .tsbZpg _ | .tsbAbs _ => .tsb
  | .adcImm _ | .adcZpg _ | .adcZpx _ | .adcAbs _ | .adcAbx _ | .adcAby _ | .adcIzx _ | .adcIzy _ | .adcIzp _ => .adc
  | .sbcImm _ | .sbcZpg _ | .sbcZpx _ | .sbcAbs _ | .sbcAbx _ | .sbcAby _ | .sbcIzx _ | .sbcIzy _ | .sbcIzp _ => .sbc
  | .jmpAbs _ | .jmpInd _ | .jmpIax _ => .jmp
  | .jsr _ => .jsr
  | .rts => .rts
  | .rti => .rti
  | .bra _ => .bra
  | .beq _ => .beq
  | .bne _ => .bne
  | .bcc _ => .bcc
  | .bcs _ => .bcs
  | .bvc _ => .bvc
  | .bvs _ => .bvs
  | .bmi _ => .bmi
  | .bpl _ => .bpl
  | .clc => .clc
  | .cld => .cld
  | .cli => .cli
  | .clv => .clv
  | .sec => .sec
  | .sed => .sed
  | .sei => .sei
  | .tax => .tax
  | .tay => .tay
  | .txa => .txa
  | .tya => .tya
  | .nop => .nop
  | .brk => .brk

/-- The addressing mode column of the opcode map, with the operand fields (30_encoding.md R63). -/
def Instr.operand : Instr → Operand
  | .pha | .phx | .phy | .php | .pla | .plx | .ply | .plp => .imp
  | .tsx | .txs | .inx | .iny | .dex | .dey | .rts | .rti => .imp
  | .clc | .cld | .cli | .clv | .sec | .sed | .sei | .tax => .imp
  | .tay | .txa | .tya | .nop | .brk => .imp
  | .ina | .dea | .aslAcc | .lsrAcc | .rolAcc | .rorAcc => .acc
  | .ldaImm v | .ldxImm v | .ldyImm v | .andImm v | .oraImm v | .eorImm v | .bitImm v | .cmpImm v => .imm v
  | .cpxImm v | .cpyImm v | .adcImm v | .sbcImm v => .imm v
  | .bra d | .beq d | .bne d | .bcc d | .bcs d | .bvc d | .bvs d | .bmi d => .rel d
  | .bpl d => .rel d
  | .jmpInd p => .ind p
  | .jmpIax p => .iax p
  | .ldaZpg zp | .ldxZpg zp | .ldyZpg zp | .staZpg zp | .stxZpg zp | .styZpg zp | .stzZpg zp | .incZpg zp => .mem (.zpg zp)
  | .decZpg zp | .aslZpg zp | .lsrZpg zp | .rolZpg zp | .rorZpg zp | .andZpg zp | .oraZpg zp | .eorZpg zp => .mem (.zpg zp)
  | .bitZpg zp | .cmpZpg zp | .cpxZpg zp | .cpyZpg zp | .trbZpg zp | .tsbZpg zp | .adcZpg zp | .sbcZpg zp => .mem (.zpg zp)
  | .ldaZpx zp | .ldyZpx zp | .staZpx zp | .styZpx zp | .stzZpx zp | .incZpx zp | .decZpx zp | .aslZpx zp => .mem (.zpx zp)
  | .lsrZpx zp | .rolZpx zp | .rorZpx zp | .andZpx zp | .oraZpx zp | .eorZpx zp | .bitZpx zp | .cmpZpx zp => .mem (.zpx zp)
  | .adcZpx zp | .sbcZpx zp => .mem (.zpx zp)
  | .ldxZpy zp | .stxZpy zp => .mem (.zpy zp)
  | .ldaIzx zp | .staIzx zp | .andIzx zp | .oraIzx zp | .eorIzx zp | .cmpIzx zp | .adcIzx zp | .sbcIzx zp => .mem (.izx zp)
  | .ldaIzy zp | .staIzy zp | .andIzy zp | .oraIzy zp | .eorIzy zp | .cmpIzy zp | .adcIzy zp | .sbcIzy zp => .mem (.izy zp)
  | .ldaIzp zp | .staIzp zp | .andIzp zp | .oraIzp zp | .eorIzp zp | .cmpIzp zp | .adcIzp zp | .sbcIzp zp => .mem (.izp zp)
  | .ldaAbs a | .ldxAbs a | .ldyAbs a | .staAbs a | .stxAbs a | .styAbs a | .stzAbs a | .incAbs a => .mem (.abs a)
  | .decAbs a | .aslAbs a | .lsrAbs a | .rolAbs a | .rorAbs a | .andAbs a | .oraAbs a | .eorAbs a => .mem (.abs a)
  | .bitAbs a | .cmpAbs a | .cpxAbs a | .cpyAbs a | .trbAbs a | .tsbAbs a | .adcAbs a | .sbcAbs a => .mem (.abs a)
  | .jmpAbs a | .jsr a => .mem (.abs a)
  | .ldaAbx a | .ldyAbx a | .staAbx a | .stzAbx a | .incAbx a | .decAbx a | .aslAbx a | .lsrAbx a => .mem (.abx a)
  | .rolAbx a | .rorAbx a | .andAbx a | .oraAbx a | .eorAbx a | .bitAbx a | .cmpAbx a | .adcAbx a => .mem (.abx a)
  | .sbcAbx a => .mem (.abx a)
  | .ldaAby a | .ldxAby a | .staAby a | .andAby a | .oraAby a | .eorAby a | .cmpAby a | .adcAby a => .mem (.aby a)
  | .sbcAby a => .mem (.aby a)

/-- The number of bytes an instruction occupies (30_encoding.md R61). -/
def Instr.size (i : Instr) : Nat := i.operand.format.size

end Sys2Proof
end

