-- ==== Sys2Proof/WellFormed.lean ====
section
/-! DEFINITION. Which terms of `Instr` are instructions: "The range of the offset is -128 to 127 bytes from the next
instruction." (30_encoding.md R79). Every other operand field has exactly the width the encoding gives it, so its type is
already its whole check. -/

namespace Sys2Proof

/-- The displacement of a branch fits its operand byte (30_encoding.md R79). -/
def displacementFits (d : Int) : Bool := decide (-128 ≤ d) && decide (d ≤ 127)

/-- The instruction has an encoding. -/
def Instr.wellFormed : Instr → Bool
  | .ldaImm _ | .ldaZpg _ | .ldaZpx _ | .ldaAbs _ | .ldaAbx _ | .ldaAby _ | .ldaIzx _ | .ldaIzy _ => true
  | .ldaIzp _ | .ldxImm _ | .ldxZpg _ | .ldxZpy _ | .ldxAbs _ | .ldxAby _ | .ldyImm _ | .ldyZpg _ => true
  | .ldyZpx _ | .ldyAbs _ | .ldyAbx _ | .staZpg _ | .staZpx _ | .staAbs _ | .staAbx _ | .staAby _ => true
  | .staIzx _ | .staIzy _ | .staIzp _ | .stxZpg _ | .stxZpy _ | .stxAbs _ | .styZpg _ | .styZpx _ => true
  | .styAbs _ | .stzZpg _ | .stzZpx _ | .stzAbs _ | .stzAbx _ => true
  | .pha | .phx | .phy | .php | .pla | .plx | .ply | .plp => true
  | .tsx | .txs => true
  | .ina | .inx | .iny | .dea | .dex | .dey | .incZpg _ | .incZpx _ => true
  | .incAbs _ | .incAbx _ | .decZpg _ | .decZpx _ | .decAbs _ | .decAbx _ => true
  | .aslAcc | .aslZpg _ | .aslZpx _ | .aslAbs _ | .aslAbx _ | .lsrAcc | .lsrZpg _ | .lsrZpx _ => true
  | .lsrAbs _ | .lsrAbx _ | .rolAcc | .rolZpg _ | .rolZpx _ | .rolAbs _ | .rolAbx _ | .rorAcc => true
  | .rorZpg _ | .rorZpx _ | .rorAbs _ | .rorAbx _ => true
  | .andImm _ | .andZpg _ | .andZpx _ | .andAbs _ | .andAbx _ | .andAby _ | .andIzx _ | .andIzy _ => true
  | .andIzp _ | .oraImm _ | .oraZpg _ | .oraZpx _ | .oraAbs _ | .oraAbx _ | .oraAby _ | .oraIzx _ => true
  | .oraIzy _ | .oraIzp _ | .eorImm _ | .eorZpg _ | .eorZpx _ | .eorAbs _ | .eorAbx _ | .eorAby _ => true
  | .eorIzx _ | .eorIzy _ | .eorIzp _ | .bitImm _ | .bitZpg _ | .bitZpx _ | .bitAbs _ | .bitAbx _ => true
  | .cmpImm _ | .cmpZpg _ | .cmpZpx _ | .cmpAbs _ | .cmpAbx _ | .cmpAby _ | .cmpIzx _ | .cmpIzy _ => true
  | .cmpIzp _ | .cpxImm _ | .cpxZpg _ | .cpxAbs _ | .cpyImm _ | .cpyZpg _ | .cpyAbs _ | .trbZpg _ => true
  | .trbAbs _ | .tsbZpg _ | .tsbAbs _ => true
  | .adcImm _ | .adcZpg _ | .adcZpx _ | .adcAbs _ | .adcAbx _ | .adcAby _ | .adcIzx _ | .adcIzy _ => true
  | .adcIzp _ | .sbcImm _ | .sbcZpg _ | .sbcZpx _ | .sbcAbs _ | .sbcAbx _ | .sbcAby _ | .sbcIzx _ => true
  | .sbcIzy _ | .sbcIzp _ => true
  | .bra d => displacementFits d
  | .beq d => displacementFits d
  | .bne d => displacementFits d
  | .bcc d => displacementFits d
  | .bcs d => displacementFits d
  | .bvc d => displacementFits d
  | .bvs d => displacementFits d
  | .bmi d => displacementFits d
  | .bpl d => displacementFits d
  | .jmpAbs _ | .jmpInd _ | .jmpIax _ | .jsr _ | .rts | .rti => true
  | .clc | .cld | .cli | .clv | .sec | .sed | .sei => true
  | .tax | .tay | .txa | .tya => true
  | .nop | .brk => true

end Sys2Proof
end

