-- ==== Sys2Proof/Decode.lean ====
section
/-! DEFINITION. The opcode map as a table of rows, the decoder (total on any bytes, rejecting by name), the encoder, and the
byte-order helpers both use (30_encoding.md R60, R61, R63, R66, R67). -/

namespace Sys2Proof

/-- The low byte of a 16-bit value (00_scope.md section 5.1). -/
def lo8 (w : Addr) : Byte := w.extractLsb' 0 8

/-- The high byte of a 16-bit value (00_scope.md section 5.1). -/
def hi8 (w : Addr) : Byte := w.extractLsb' 8 8

/-- The 16-bit value `hi * 256 + lo` (00_scope.md section 5.1). -/
def word16 (hi lo : Byte) : Addr := hi ++ lo

/-- The operand byte of a branch displacement: two's complement (30_encoding.md R79). -/
def rel8 (d : Int) : Byte := BitVec.ofInt 8 d

/-- One row of the opcode map: its mnemonic, its format, its opcode byte, and the instruction that its two operand bytes give
(a row of a shorter format ignores those it has not). -/
structure OpRow where
  mnemonic : Mnemonic
  format : Format
  opcode : Byte
  build : Byte → Byte → Instr

/-- The rows of 40_load_store.md (30_encoding.md R63). -/
def rowsLoadStore : List OpRow := [
  ⟨.lda, .imm, 0xA9, fun b1 _ => .ldaImm b1⟩,
  ⟨.lda, .zpg, 0xA5, fun b1 _ => .ldaZpg b1⟩,
  ⟨.lda, .zpx, 0xB5, fun b1 _ => .ldaZpx b1⟩,
  ⟨.lda, .abs, 0xAD, fun b1 b2 => .ldaAbs (word16 b2 b1)⟩,
  ⟨.lda, .abx, 0xBD, fun b1 b2 => .ldaAbx (word16 b2 b1)⟩,
  ⟨.lda, .aby, 0xB9, fun b1 b2 => .ldaAby (word16 b2 b1)⟩,
  ⟨.lda, .izx, 0xA1, fun b1 _ => .ldaIzx b1⟩,
  ⟨.lda, .izy, 0xB1, fun b1 _ => .ldaIzy b1⟩,
  ⟨.lda, .izp, 0xB2, fun b1 _ => .ldaIzp b1⟩,
  ⟨.ldx, .imm, 0xA2, fun b1 _ => .ldxImm b1⟩,
  ⟨.ldx, .zpg, 0xA6, fun b1 _ => .ldxZpg b1⟩,
  ⟨.ldx, .zpy, 0xB6, fun b1 _ => .ldxZpy b1⟩,
  ⟨.ldx, .abs, 0xAE, fun b1 b2 => .ldxAbs (word16 b2 b1)⟩,
  ⟨.ldx, .aby, 0xBE, fun b1 b2 => .ldxAby (word16 b2 b1)⟩,
  ⟨.ldy, .imm, 0xA0, fun b1 _ => .ldyImm b1⟩,
  ⟨.ldy, .zpg, 0xA4, fun b1 _ => .ldyZpg b1⟩,
  ⟨.ldy, .zpx, 0xB4, fun b1 _ => .ldyZpx b1⟩,
  ⟨.ldy, .abs, 0xAC, fun b1 b2 => .ldyAbs (word16 b2 b1)⟩,
  ⟨.ldy, .abx, 0xBC, fun b1 b2 => .ldyAbx (word16 b2 b1)⟩,
  ⟨.sta, .zpg, 0x85, fun b1 _ => .staZpg b1⟩,
  ⟨.sta, .zpx, 0x95, fun b1 _ => .staZpx b1⟩,
  ⟨.sta, .abs, 0x8D, fun b1 b2 => .staAbs (word16 b2 b1)⟩,
  ⟨.sta, .abx, 0x9D, fun b1 b2 => .staAbx (word16 b2 b1)⟩,
  ⟨.sta, .aby, 0x99, fun b1 b2 => .staAby (word16 b2 b1)⟩,
  ⟨.sta, .izx, 0x81, fun b1 _ => .staIzx b1⟩,
  ⟨.sta, .izy, 0x91, fun b1 _ => .staIzy b1⟩,
  ⟨.sta, .izp, 0x92, fun b1 _ => .staIzp b1⟩,
  ⟨.stx, .zpg, 0x86, fun b1 _ => .stxZpg b1⟩,
  ⟨.stx, .zpy, 0x96, fun b1 _ => .stxZpy b1⟩,
  ⟨.stx, .abs, 0x8E, fun b1 b2 => .stxAbs (word16 b2 b1)⟩,
  ⟨.sty, .zpg, 0x84, fun b1 _ => .styZpg b1⟩,
  ⟨.sty, .zpx, 0x94, fun b1 _ => .styZpx b1⟩,
  ⟨.sty, .abs, 0x8C, fun b1 b2 => .styAbs (word16 b2 b1)⟩,
  ⟨.stz, .zpg, 0x64, fun b1 _ => .stzZpg b1⟩,
  ⟨.stz, .zpx, 0x74, fun b1 _ => .stzZpx b1⟩,
  ⟨.stz, .abs, 0x9C, fun b1 b2 => .stzAbs (word16 b2 b1)⟩,
  ⟨.stz, .abx, 0x9E, fun b1 b2 => .stzAbx (word16 b2 b1)⟩]

/-- The rows of 41_stack.md (30_encoding.md R63). -/
def rowsStack : List OpRow := [
  ⟨.pha, .imp, 0x48, fun _ _ => .pha⟩,
  ⟨.phx, .imp, 0xDA, fun _ _ => .phx⟩,
  ⟨.phy, .imp, 0x5A, fun _ _ => .phy⟩,
  ⟨.php, .imp, 0x08, fun _ _ => .php⟩,
  ⟨.pla, .imp, 0x68, fun _ _ => .pla⟩,
  ⟨.plx, .imp, 0xFA, fun _ _ => .plx⟩,
  ⟨.ply, .imp, 0x7A, fun _ _ => .ply⟩,
  ⟨.plp, .imp, 0x28, fun _ _ => .plp⟩,
  ⟨.tsx, .imp, 0xBA, fun _ _ => .tsx⟩,
  ⟨.txs, .imp, 0x9A, fun _ _ => .txs⟩]

/-- The rows of 42_inc_dec.md (30_encoding.md R63). -/
def rowsIncDec : List OpRow := [
  ⟨.ina, .acc, 0x1A, fun _ _ => .ina⟩,
  ⟨.inx, .imp, 0xE8, fun _ _ => .inx⟩,
  ⟨.iny, .imp, 0xC8, fun _ _ => .iny⟩,
  ⟨.dea, .acc, 0x3A, fun _ _ => .dea⟩,
  ⟨.dex, .imp, 0xCA, fun _ _ => .dex⟩,
  ⟨.dey, .imp, 0x88, fun _ _ => .dey⟩,
  ⟨.inc, .zpg, 0xE6, fun b1 _ => .incZpg b1⟩,
  ⟨.inc, .zpx, 0xF6, fun b1 _ => .incZpx b1⟩,
  ⟨.inc, .abs, 0xEE, fun b1 b2 => .incAbs (word16 b2 b1)⟩,
  ⟨.inc, .abx, 0xFE, fun b1 b2 => .incAbx (word16 b2 b1)⟩,
  ⟨.dec, .zpg, 0xC6, fun b1 _ => .decZpg b1⟩,
  ⟨.dec, .zpx, 0xD6, fun b1 _ => .decZpx b1⟩,
  ⟨.dec, .abs, 0xCE, fun b1 b2 => .decAbs (word16 b2 b1)⟩,
  ⟨.dec, .abx, 0xDE, fun b1 b2 => .decAbx (word16 b2 b1)⟩]

/-- The rows of 43_shift.md (30_encoding.md R63). -/
def rowsShift : List OpRow := [
  ⟨.asl, .acc, 0x0A, fun _ _ => .aslAcc⟩,
  ⟨.asl, .zpg, 0x06, fun b1 _ => .aslZpg b1⟩,
  ⟨.asl, .zpx, 0x16, fun b1 _ => .aslZpx b1⟩,
  ⟨.asl, .abs, 0x0E, fun b1 b2 => .aslAbs (word16 b2 b1)⟩,
  ⟨.asl, .abx, 0x1E, fun b1 b2 => .aslAbx (word16 b2 b1)⟩,
  ⟨.lsr, .acc, 0x4A, fun _ _ => .lsrAcc⟩,
  ⟨.lsr, .zpg, 0x46, fun b1 _ => .lsrZpg b1⟩,
  ⟨.lsr, .zpx, 0x56, fun b1 _ => .lsrZpx b1⟩,
  ⟨.lsr, .abs, 0x4E, fun b1 b2 => .lsrAbs (word16 b2 b1)⟩,
  ⟨.lsr, .abx, 0x5E, fun b1 b2 => .lsrAbx (word16 b2 b1)⟩,
  ⟨.rol, .acc, 0x2A, fun _ _ => .rolAcc⟩,
  ⟨.rol, .zpg, 0x26, fun b1 _ => .rolZpg b1⟩,
  ⟨.rol, .zpx, 0x36, fun b1 _ => .rolZpx b1⟩,
  ⟨.rol, .abs, 0x2E, fun b1 b2 => .rolAbs (word16 b2 b1)⟩,
  ⟨.rol, .abx, 0x3E, fun b1 b2 => .rolAbx (word16 b2 b1)⟩,
  ⟨.ror, .acc, 0x6A, fun _ _ => .rorAcc⟩,
  ⟨.ror, .zpg, 0x66, fun b1 _ => .rorZpg b1⟩,
  ⟨.ror, .zpx, 0x76, fun b1 _ => .rorZpx b1⟩,
  ⟨.ror, .abs, 0x6E, fun b1 b2 => .rorAbs (word16 b2 b1)⟩,
  ⟨.ror, .abx, 0x7E, fun b1 b2 => .rorAbx (word16 b2 b1)⟩]

/-- The rows of 44_logical.md (30_encoding.md R63). -/
def rowsLogical : List OpRow := [
  ⟨.and, .imm, 0x29, fun b1 _ => .andImm b1⟩,
  ⟨.and, .zpg, 0x25, fun b1 _ => .andZpg b1⟩,
  ⟨.and, .zpx, 0x35, fun b1 _ => .andZpx b1⟩,
  ⟨.and, .abs, 0x2D, fun b1 b2 => .andAbs (word16 b2 b1)⟩,
  ⟨.and, .abx, 0x3D, fun b1 b2 => .andAbx (word16 b2 b1)⟩,
  ⟨.and, .aby, 0x39, fun b1 b2 => .andAby (word16 b2 b1)⟩,
  ⟨.and, .izx, 0x21, fun b1 _ => .andIzx b1⟩,
  ⟨.and, .izy, 0x31, fun b1 _ => .andIzy b1⟩,
  ⟨.and, .izp, 0x32, fun b1 _ => .andIzp b1⟩,
  ⟨.ora, .imm, 0x09, fun b1 _ => .oraImm b1⟩,
  ⟨.ora, .zpg, 0x05, fun b1 _ => .oraZpg b1⟩,
  ⟨.ora, .zpx, 0x15, fun b1 _ => .oraZpx b1⟩,
  ⟨.ora, .abs, 0x0D, fun b1 b2 => .oraAbs (word16 b2 b1)⟩,
  ⟨.ora, .abx, 0x1D, fun b1 b2 => .oraAbx (word16 b2 b1)⟩,
  ⟨.ora, .aby, 0x19, fun b1 b2 => .oraAby (word16 b2 b1)⟩,
  ⟨.ora, .izx, 0x01, fun b1 _ => .oraIzx b1⟩,
  ⟨.ora, .izy, 0x11, fun b1 _ => .oraIzy b1⟩,
  ⟨.ora, .izp, 0x12, fun b1 _ => .oraIzp b1⟩,
  ⟨.eor, .imm, 0x49, fun b1 _ => .eorImm b1⟩,
  ⟨.eor, .zpg, 0x45, fun b1 _ => .eorZpg b1⟩,
  ⟨.eor, .zpx, 0x55, fun b1 _ => .eorZpx b1⟩,
  ⟨.eor, .abs, 0x4D, fun b1 b2 => .eorAbs (word16 b2 b1)⟩,
  ⟨.eor, .abx, 0x5D, fun b1 b2 => .eorAbx (word16 b2 b1)⟩,
  ⟨.eor, .aby, 0x59, fun b1 b2 => .eorAby (word16 b2 b1)⟩,
  ⟨.eor, .izx, 0x41, fun b1 _ => .eorIzx b1⟩,
  ⟨.eor, .izy, 0x51, fun b1 _ => .eorIzy b1⟩,
  ⟨.eor, .izp, 0x52, fun b1 _ => .eorIzp b1⟩,
  ⟨.bit, .imm, 0x89, fun b1 _ => .bitImm b1⟩,
  ⟨.bit, .zpg, 0x24, fun b1 _ => .bitZpg b1⟩,
  ⟨.bit, .zpx, 0x34, fun b1 _ => .bitZpx b1⟩,
  ⟨.bit, .abs, 0x2C, fun b1 b2 => .bitAbs (word16 b2 b1)⟩,
  ⟨.bit, .abx, 0x3C, fun b1 b2 => .bitAbx (word16 b2 b1)⟩,
  ⟨.cmp, .imm, 0xC9, fun b1 _ => .cmpImm b1⟩,
  ⟨.cmp, .zpg, 0xC5, fun b1 _ => .cmpZpg b1⟩,
  ⟨.cmp, .zpx, 0xD5, fun b1 _ => .cmpZpx b1⟩,
  ⟨.cmp, .abs, 0xCD, fun b1 b2 => .cmpAbs (word16 b2 b1)⟩,
  ⟨.cmp, .abx, 0xDD, fun b1 b2 => .cmpAbx (word16 b2 b1)⟩,
  ⟨.cmp, .aby, 0xD9, fun b1 b2 => .cmpAby (word16 b2 b1)⟩,
  ⟨.cmp, .izx, 0xC1, fun b1 _ => .cmpIzx b1⟩,
  ⟨.cmp, .izy, 0xD1, fun b1 _ => .cmpIzy b1⟩,
  ⟨.cmp, .izp, 0xD2, fun b1 _ => .cmpIzp b1⟩,
  ⟨.cpx, .imm, 0xE0, fun b1 _ => .cpxImm b1⟩,
  ⟨.cpx, .zpg, 0xE4, fun b1 _ => .cpxZpg b1⟩,
  ⟨.cpx, .abs, 0xEC, fun b1 b2 => .cpxAbs (word16 b2 b1)⟩,
  ⟨.cpy, .imm, 0xC0, fun b1 _ => .cpyImm b1⟩,
  ⟨.cpy, .zpg, 0xC4, fun b1 _ => .cpyZpg b1⟩,
  ⟨.cpy, .abs, 0xCC, fun b1 b2 => .cpyAbs (word16 b2 b1)⟩,
  ⟨.trb, .zpg, 0x14, fun b1 _ => .trbZpg b1⟩,
  ⟨.trb, .abs, 0x1C, fun b1 b2 => .trbAbs (word16 b2 b1)⟩,
  ⟨.tsb, .zpg, 0x04, fun b1 _ => .tsbZpg b1⟩,
  ⟨.tsb, .abs, 0x0C, fun b1 b2 => .tsbAbs (word16 b2 b1)⟩]

/-- The rows of 45_math.md (30_encoding.md R63). -/
def rowsMath : List OpRow := [
  ⟨.adc, .imm, 0x69, fun b1 _ => .adcImm b1⟩,
  ⟨.adc, .zpg, 0x65, fun b1 _ => .adcZpg b1⟩,
  ⟨.adc, .zpx, 0x75, fun b1 _ => .adcZpx b1⟩,
  ⟨.adc, .abs, 0x6D, fun b1 b2 => .adcAbs (word16 b2 b1)⟩,
  ⟨.adc, .abx, 0x7D, fun b1 b2 => .adcAbx (word16 b2 b1)⟩,
  ⟨.adc, .aby, 0x79, fun b1 b2 => .adcAby (word16 b2 b1)⟩,
  ⟨.adc, .izx, 0x61, fun b1 _ => .adcIzx b1⟩,
  ⟨.adc, .izy, 0x71, fun b1 _ => .adcIzy b1⟩,
  ⟨.adc, .izp, 0x72, fun b1 _ => .adcIzp b1⟩,
  ⟨.sbc, .imm, 0xE9, fun b1 _ => .sbcImm b1⟩,
  ⟨.sbc, .zpg, 0xE5, fun b1 _ => .sbcZpg b1⟩,
  ⟨.sbc, .zpx, 0xF5, fun b1 _ => .sbcZpx b1⟩,
  ⟨.sbc, .abs, 0xED, fun b1 b2 => .sbcAbs (word16 b2 b1)⟩,
  ⟨.sbc, .abx, 0xFD, fun b1 b2 => .sbcAbx (word16 b2 b1)⟩,
  ⟨.sbc, .aby, 0xF9, fun b1 b2 => .sbcAby (word16 b2 b1)⟩,
  ⟨.sbc, .izx, 0xE1, fun b1 _ => .sbcIzx b1⟩,
  ⟨.sbc, .izy, 0xF1, fun b1 _ => .sbcIzy b1⟩,
  ⟨.sbc, .izp, 0xF2, fun b1 _ => .sbcIzp b1⟩]

/-- The rows of 46_flow.md (30_encoding.md R63). -/
def rowsFlow : List OpRow := [
  ⟨.jmp, .abs, 0x4C, fun b1 b2 => .jmpAbs (word16 b2 b1)⟩,
  ⟨.jmp, .ind, 0x6C, fun b1 b2 => .jmpInd (word16 b2 b1)⟩,
  ⟨.jmp, .iax, 0x7C, fun b1 b2 => .jmpIax (word16 b2 b1)⟩,
  ⟨.jsr, .abs, 0x20, fun b1 b2 => .jsr (word16 b2 b1)⟩,
  ⟨.rts, .imp, 0x60, fun _ _ => .rts⟩,
  ⟨.rti, .imp, 0x40, fun _ _ => .rti⟩,
  ⟨.bra, .rel, 0x80, fun b1 _ => .bra b1.toInt⟩,
  ⟨.beq, .rel, 0xF0, fun b1 _ => .beq b1.toInt⟩,
  ⟨.bne, .rel, 0xD0, fun b1 _ => .bne b1.toInt⟩,
  ⟨.bcc, .rel, 0x90, fun b1 _ => .bcc b1.toInt⟩,
  ⟨.bcs, .rel, 0xB0, fun b1 _ => .bcs b1.toInt⟩,
  ⟨.bvc, .rel, 0x50, fun b1 _ => .bvc b1.toInt⟩,
  ⟨.bvs, .rel, 0x70, fun b1 _ => .bvs b1.toInt⟩,
  ⟨.bmi, .rel, 0x30, fun b1 _ => .bmi b1.toInt⟩,
  ⟨.bpl, .rel, 0x10, fun b1 _ => .bpl b1.toInt⟩]

/-- The rows of 47_status.md (30_encoding.md R63). -/
def rowsStatus : List OpRow := [
  ⟨.clc, .imp, 0x18, fun _ _ => .clc⟩,
  ⟨.cld, .imp, 0xD8, fun _ _ => .cld⟩,
  ⟨.cli, .imp, 0x58, fun _ _ => .cli⟩,
  ⟨.clv, .imp, 0xB8, fun _ _ => .clv⟩,
  ⟨.sec, .imp, 0x38, fun _ _ => .sec⟩,
  ⟨.sed, .imp, 0xF8, fun _ _ => .sed⟩,
  ⟨.sei, .imp, 0x78, fun _ _ => .sei⟩]

/-- The rows of 48_transfer.md (30_encoding.md R63). -/
def rowsTransfer : List OpRow := [
  ⟨.tax, .imp, 0xAA, fun _ _ => .tax⟩,
  ⟨.tay, .imp, 0xA8, fun _ _ => .tay⟩,
  ⟨.txa, .imp, 0x8A, fun _ _ => .txa⟩,
  ⟨.tya, .imp, 0x98, fun _ _ => .tya⟩]

/-- The rows of 49_misc.md (30_encoding.md R63). -/
def rowsMisc : List OpRow := [
  ⟨.nop, .imp, 0xEA, fun _ _ => .nop⟩,
  ⟨.brk, .imp, 0x00, fun _ _ => .brk⟩]

/-- The opcode map: 178 rows (30_encoding.md R63). -/
def opcodeRows : List OpRow :=
  rowsLoadStore ++ rowsStack ++ rowsIncDec ++ rowsShift ++ rowsLogical ++
  rowsMath ++ rowsFlow ++ rowsStatus ++ rowsTransfer ++ rowsMisc

/-- The row of an opcode byte: the byte alone selects it (30_encoding.md R60, R67). -/
def findRow (opcode : Byte) : Option OpRow := opcodeRows.find? fun r => r.opcode == opcode

/-- Why bytes give no instruction. -/
inductive DecodeError where
  /-- The first byte is one of the 78 that have no row (30_encoding.md R66). -/
  | undefinedOpcode (opcode : Byte)
  /-- Fewer bytes than the format of the first one has, or no byte at all. -/
  | truncated
  deriving DecidableEq, Repr

/-- The instruction at the head of a list of bytes, and the bytes after it (30_encoding.md R60, R61). -/
def decode : List Byte → Except DecodeError (Instr × List Byte)
  | [] => .error .truncated
  | b0 :: bytes =>
    match findRow b0 with
    | none => .error (.undefinedOpcode b0)
    | some row =>
      match row.format.size, bytes with
      | 1, rest => .ok (row.build 0 0, rest)
      | 2, b1 :: rest => .ok (row.build b1 0, rest)
      | 3, b1 :: b2 :: rest => .ok (row.build b1 b2, rest)
      | _, _ => .error .truncated

/-- The bytes of an instruction, written from the opcode column and the formats of 30_encoding.md R61 and R63. -/
def encode : Instr → List Byte
  | .ldaImm v => [0xA9, v]
  | .ldaZpg zp => [0xA5, zp]
  | .ldaZpx zp => [0xB5, zp]
  | .ldaAbs a => [0xAD, lo8 a, hi8 a]
  | .ldaAbx a => [0xBD, lo8 a, hi8 a]
  | .ldaAby a => [0xB9, lo8 a, hi8 a]
  | .ldaIzx zp => [0xA1, zp]
  | .ldaIzy zp => [0xB1, zp]
  | .ldaIzp zp => [0xB2, zp]
  | .ldxImm v => [0xA2, v]
  | .ldxZpg zp => [0xA6, zp]
  | .ldxZpy zp => [0xB6, zp]
  | .ldxAbs a => [0xAE, lo8 a, hi8 a]
  | .ldxAby a => [0xBE, lo8 a, hi8 a]
  | .ldyImm v => [0xA0, v]
  | .ldyZpg zp => [0xA4, zp]
  | .ldyZpx zp => [0xB4, zp]
  | .ldyAbs a => [0xAC, lo8 a, hi8 a]
  | .ldyAbx a => [0xBC, lo8 a, hi8 a]
  | .staZpg zp => [0x85, zp]
  | .staZpx zp => [0x95, zp]
  | .staAbs a => [0x8D, lo8 a, hi8 a]
  | .staAbx a => [0x9D, lo8 a, hi8 a]
  | .staAby a => [0x99, lo8 a, hi8 a]
  | .staIzx zp => [0x81, zp]
  | .staIzy zp => [0x91, zp]
  | .staIzp zp => [0x92, zp]
  | .stxZpg zp => [0x86, zp]
  | .stxZpy zp => [0x96, zp]
  | .stxAbs a => [0x8E, lo8 a, hi8 a]
  | .styZpg zp => [0x84, zp]
  | .styZpx zp => [0x94, zp]
  | .styAbs a => [0x8C, lo8 a, hi8 a]
  | .stzZpg zp => [0x64, zp]
  | .stzZpx zp => [0x74, zp]
  | .stzAbs a => [0x9C, lo8 a, hi8 a]
  | .stzAbx a => [0x9E, lo8 a, hi8 a]
  | .pha => [0x48]
  | .phx => [0xDA]
  | .phy => [0x5A]
  | .php => [0x08]
  | .pla => [0x68]
  | .plx => [0xFA]
  | .ply => [0x7A]
  | .plp => [0x28]
  | .tsx => [0xBA]
  | .txs => [0x9A]
  | .ina => [0x1A]
  | .inx => [0xE8]
  | .iny => [0xC8]
  | .dea => [0x3A]
  | .dex => [0xCA]
  | .dey => [0x88]
  | .incZpg zp => [0xE6, zp]
  | .incZpx zp => [0xF6, zp]
  | .incAbs a => [0xEE, lo8 a, hi8 a]
  | .incAbx a => [0xFE, lo8 a, hi8 a]
  | .decZpg zp => [0xC6, zp]
  | .decZpx zp => [0xD6, zp]
  | .decAbs a => [0xCE, lo8 a, hi8 a]
  | .decAbx a => [0xDE, lo8 a, hi8 a]
  | .aslAcc => [0x0A]
  | .aslZpg zp => [0x06, zp]
  | .aslZpx zp => [0x16, zp]
  | .aslAbs a => [0x0E, lo8 a, hi8 a]
  | .aslAbx a => [0x1E, lo8 a, hi8 a]
  | .lsrAcc => [0x4A]
  | .lsrZpg zp => [0x46, zp]
  | .lsrZpx zp => [0x56, zp]
  | .lsrAbs a => [0x4E, lo8 a, hi8 a]
  | .lsrAbx a => [0x5E, lo8 a, hi8 a]
  | .rolAcc => [0x2A]
  | .rolZpg zp => [0x26, zp]
  | .rolZpx zp => [0x36, zp]
  | .rolAbs a => [0x2E, lo8 a, hi8 a]
  | .rolAbx a => [0x3E, lo8 a, hi8 a]
  | .rorAcc => [0x6A]
  | .rorZpg zp => [0x66, zp]
  | .rorZpx zp => [0x76, zp]
  | .rorAbs a => [0x6E, lo8 a, hi8 a]
  | .rorAbx a => [0x7E, lo8 a, hi8 a]
  | .andImm v => [0x29, v]
  | .andZpg zp => [0x25, zp]
  | .andZpx zp => [0x35, zp]
  | .andAbs a => [0x2D, lo8 a, hi8 a]
  | .andAbx a => [0x3D, lo8 a, hi8 a]
  | .andAby a => [0x39, lo8 a, hi8 a]
  | .andIzx zp => [0x21, zp]
  | .andIzy zp => [0x31, zp]
  | .andIzp zp => [0x32, zp]
  | .oraImm v => [0x09, v]
  | .oraZpg zp => [0x05, zp]
  | .oraZpx zp => [0x15, zp]
  | .oraAbs a => [0x0D, lo8 a, hi8 a]
  | .oraAbx a => [0x1D, lo8 a, hi8 a]
  | .oraAby a => [0x19, lo8 a, hi8 a]
  | .oraIzx zp => [0x01, zp]
  | .oraIzy zp => [0x11, zp]
  | .oraIzp zp => [0x12, zp]
  | .eorImm v => [0x49, v]
  | .eorZpg zp => [0x45, zp]
  | .eorZpx zp => [0x55, zp]
  | .eorAbs a => [0x4D, lo8 a, hi8 a]
  | .eorAbx a => [0x5D, lo8 a, hi8 a]
  | .eorAby a => [0x59, lo8 a, hi8 a]
  | .eorIzx zp => [0x41, zp]
  | .eorIzy zp => [0x51, zp]
  | .eorIzp zp => [0x52, zp]
  | .bitImm v => [0x89, v]
  | .bitZpg zp => [0x24, zp]
  | .bitZpx zp => [0x34, zp]
  | .bitAbs a => [0x2C, lo8 a, hi8 a]
  | .bitAbx a => [0x3C, lo8 a, hi8 a]
  | .cmpImm v => [0xC9, v]
  | .cmpZpg zp => [0xC5, zp]
  | .cmpZpx zp => [0xD5, zp]
  | .cmpAbs a => [0xCD, lo8 a, hi8 a]
  | .cmpAbx a => [0xDD, lo8 a, hi8 a]
  | .cmpAby a => [0xD9, lo8 a, hi8 a]
  | .cmpIzx zp => [0xC1, zp]
  | .cmpIzy zp => [0xD1, zp]
  | .cmpIzp zp => [0xD2, zp]
  | .cpxImm v => [0xE0, v]
  | .cpxZpg zp => [0xE4, zp]
  | .cpxAbs a => [0xEC, lo8 a, hi8 a]
  | .cpyImm v => [0xC0, v]
  | .cpyZpg zp => [0xC4, zp]
  | .cpyAbs a => [0xCC, lo8 a, hi8 a]
  | .trbZpg zp => [0x14, zp]
  | .trbAbs a => [0x1C, lo8 a, hi8 a]
  | .tsbZpg zp => [0x04, zp]
  | .tsbAbs a => [0x0C, lo8 a, hi8 a]
  | .adcImm v => [0x69, v]
  | .adcZpg zp => [0x65, zp]
  | .adcZpx zp => [0x75, zp]
  | .adcAbs a => [0x6D, lo8 a, hi8 a]
  | .adcAbx a => [0x7D, lo8 a, hi8 a]
  | .adcAby a => [0x79, lo8 a, hi8 a]
  | .adcIzx zp => [0x61, zp]
  | .adcIzy zp => [0x71, zp]
  | .adcIzp zp => [0x72, zp]
  | .sbcImm v => [0xE9, v]
  | .sbcZpg zp => [0xE5, zp]
  | .sbcZpx zp => [0xF5, zp]
  | .sbcAbs a => [0xED, lo8 a, hi8 a]
  | .sbcAbx a => [0xFD, lo8 a, hi8 a]
  | .sbcAby a => [0xF9, lo8 a, hi8 a]
  | .sbcIzx zp => [0xE1, zp]
  | .sbcIzy zp => [0xF1, zp]
  | .sbcIzp zp => [0xF2, zp]
  | .jmpAbs a => [0x4C, lo8 a, hi8 a]
  | .jmpInd p => [0x6C, lo8 p, hi8 p]
  | .jmpIax p => [0x7C, lo8 p, hi8 p]
  | .jsr a => [0x20, lo8 a, hi8 a]
  | .rts => [0x60]
  | .rti => [0x40]
  | .bra d => [0x80, rel8 d]
  | .beq d => [0xF0, rel8 d]
  | .bne d => [0xD0, rel8 d]
  | .bcc d => [0x90, rel8 d]
  | .bcs d => [0xB0, rel8 d]
  | .bvc d => [0x50, rel8 d]
  | .bvs d => [0x70, rel8 d]
  | .bmi d => [0x30, rel8 d]
  | .bpl d => [0x10, rel8 d]
  | .clc => [0x18]
  | .cld => [0xD8]
  | .cli => [0x58]
  | .clv => [0xB8]
  | .sec => [0x38]
  | .sed => [0xF8]
  | .sei => [0x78]
  | .tax => [0xAA]
  | .tay => [0xA8]
  | .txa => [0x8A]
  | .tya => [0x98]
  | .nop => [0xEA]
  | .brk => [0x00]

/-- Byte `k` of an instruction whose first `nbits` bits are those of `w` and whose further bits are 0: bit 0 of `w` is bit 0 of
the opcode byte, and each later byte counts on from there. -/
def tableByte (nbits w k : Nat) : Byte := BitVec.ofNat 8 (w % 2 ^ nbits / 2 ^ (8 * k))

/-- The instruction the decoder reads from a word numbered as spec/opcode_table.json numbers it. -/
def decodeTableWord (nbits w : Nat) : Option Instr :=
  match decode [tableByte nbits w 0, tableByte nbits w 1, tableByte nbits w 2] with
  | .ok (i, _) => some i
  | .error _ => none

end Sys2Proof
end

