-- ==== Sys2Proof/Config.lean ====
section
/-! DEFINITION. The free values: what the spec leaves to `any value`. Each is a constant with no body, so no proof can see
which value it is. Each is applied to the index `draws` that State holds and the step advances, so that two uses are
unrelated (logs 4, 5, 7, 10). -/

namespace Sys2Proof

/-- The five values that one decimal ADC or SBC step may draw (45_math.md R169). -/
structure BcdDraw where
  a : Byte
  n : Bool
  v : Bool
  z : Bool
  c : Bool
  deriving DecidableEq, Repr, Inhabited

/-- The eight values that a RESET of a running processor leaves open (70_reset_and_hazards.md R260, U4, U13). -/
structure ResetDraw where
  a : Byte
  x : Byte
  y : Byte
  s : Byte
  n : Bool
  v : Bool
  z : Bool
  c : Bool
  deriving DecidableEq, Repr, Inhabited

/-- FREE VALUE. The parameter `BcdDraw` of 45_math.md R169: the unspecified outputs of a decimal ADC or SBC (log 4). -/
opaque Config.bcdDraw : Nat → BcdDraw

/-- FREE VALUE. The register and flag values after a RESET event (log 10). -/
opaque Config.resetDraw : Nat → ResetDraw

/-- FREE VALUE. At a boundary where a request is present and unmasked: is it taken there, or does one more instruction
run (60_exceptions.md R233, 93_implementation_defined.md U8, log 7)? -/
opaque Config.honours : Nat → Bool

end Sys2Proof
end

