-- ==== Sys2Proof/Machine/State.lean ====
section
/-! DEFINITION. The state of the machine as plain data, the reasons a step can stop, and the state right after reset
(10_state.md, 20_memory.md R46, 60_exceptions.md R232). -/

namespace Sys2Proof.Machine

/-- What stands behind an address: the parameter `MemMap` (20_memory.md R46, 92_eei_decisions.md D19). -/
inductive MemKind where
  /-- Plain memory: a read returns the last write (R40). -/
  | ram
  /-- Readable only. -/
  | rom
  /-- Nothing behind the address. -/
  | absent
  /-- A register of a device the spec does not describe. -/
  | device
  deriving DecidableEq, Repr

/-- One region of the memory map: the addresses from `first` to `last`, both included. -/
structure Region where
  first : Addr
  last : Addr
  kind : MemKind
  deriving DecidableEq, Repr

/-- What Env does at one instruction boundary (60_exceptions.md R232): the level it drives on the IRQ line, whether a new
NMI request arrives, whether RESET is asserted. -/
structure EnvInput where
  irqLine : Bool
  nmi : Bool
  reset : Bool
  deriving DecidableEq, Repr

/-- The bytes that differ from `blankByte`, in rising order of address. -/
abbrev Memory := List Host.Cell

/-- What a byte of memory that is not listed reads as. DESIGN CHOICE, unsafe (log 1): the spec leaves it to the platform. -/
def blankByte : Byte := 0x00

/-- The whole state. Register and flag names are the spec's (10_state.md R10 to R18). -/
structure State where
  /-- The accumulator (R10). -/
  A : Byte
  /-- The X index register (R11). -/
  X : Byte
  /-- The Y index register (R12). -/
  Y : Byte
  /-- The stack pointer: the stack address it denotes is `$0100 + S` (R13). -/
  S : Byte
  /-- The program counter: between steps, the address of the next opcode byte (R14). -/
  PC : Addr
  /-- Negative (R18). -/
  N : Bool
  /-- Overflow (R18). -/
  V : Bool
  /-- Decimal (R18). -/
  D : Bool
  /-- Interrupt disable (R18). -/
  I : Bool
  /-- Zero (R18). -/
  Z : Bool
  /-- Carry (R18). -/
  C : Bool
  /-- The level of the IRQ request (R26). -/
  irqLine : Bool
  /-- The latch of the NMI request (R26). -/
  nmiPending : Bool
  /-- Memory (R25, R40). -/
  mem : Memory
  /-- The platform's memory map: the first region that holds an address classes it, and an address in none is plain
  memory (20_memory.md R46, log 11). -/
  memMap : List Region
  /-- Env's inputs at the boundaries to come, the next one first. With none left Env is quiet and the IRQ line keeps its
  level (60_exceptions.md R232, log 6). -/
  env : List EnvInput
  /-- The model's own field: the index of the next free value (log 5). -/
  draws : Nat
  deriving DecidableEq, Repr

/-- Why a step is stuck: an access that the spec gives no meaning (93_implementation_defined.md U10, log 13). -/
inductive Fault where
  /-- Raised by every read, write and fetch of an address with nothing behind it. Safe: the hardware goes on. -/
  | absentAddress (a : Addr)
  /-- Raised by every write to a ROM address. Safe: the hardware goes on. -/
  | romWrite (a : Addr)
  deriving DecidableEq, Repr

/-- Why a step is refused. -/
inductive Refusal where
  /-- Raised by an arm of `exec` whose instruction has no meaning yet (none is left). Safe. -/
  | notModelled (mnemonic : String)
  /-- Raised by the fetch of one of the 78 opcode bytes that have no row (30_encoding.md R66, U1). Safe. -/
  | undefinedOpcode (opcode : Byte)
  /-- Raised by a JSR whose two pushes fall on its own second or third byte (46_flow.md R182, U9). Safe. -/
  | jsrOverwritesItself
  /-- Raised by every read, write and fetch of a device's address (20_memory.md R46, U10). Safe. -/
  | deviceAccess (a : Addr)
  deriving DecidableEq, Repr

/-- The outcome of a part of a step that produces an `α`. -/
abbrev Result (α : Type) := Host.Outcome α Fault Refusal

/-- The machine right after reset (10_state.md R27): I = 1, D = 0, no NMI pending, PC = `Read16(0xFFFC)`, which over blank
memory is `blankByte` twice. Every other value is a DESIGN CHOICE of the model (logs 1, 2, 6, 11, 16). -/
def State.reset : State where
  A := 0
  X := 0
  Y := 0
  S := 0
  PC := blankByte ++ blankByte
  N := false
  V := false
  D := false
  I := true
  Z := false
  C := false
  irqLine := false
  nmiPending := false
  mem := []
  memMap := []
  env := []
  draws := 0

end Sys2Proof.Machine
end

