-- ==== Sys2Proof/Machine/Flags.lean ====
section
/-! DEFINITION. The flags of P, the byte image of P, and every computation of a flag or of an arithmetic result
(10_state.md R17 to R22, 43_shift.md, 44_logical.md, 45_math.md). The functions on bytes are pure; those on `State` write
flags only, or A and flags. -/

namespace Sys2Proof.Machine

/-- The six stored flags (10_state.md R17). -/
inductive Flag where
  | n | v | d | i | z | c
  deriving DecidableEq, Repr

def State.flag (f : Flag) (s : State) : Bool :=
  match f with
  | .n => s.N
  | .v => s.V
  | .d => s.D
  | .i => s.I
  | .z => s.Z
  | .c => s.C

def State.setFlag (f : Flag) (b : Bool) (s : State) : State :=
  match f with
  | .n => { s with N := b }
  | .v => { s with V := b }
  | .d => { s with D := b }
  | .i => { s with I := b }
  | .z => { s with Z := b }
  | .c => { s with C := b }

/-- `SetNZ(v)` (10_state.md R19). -/
def State.setNZ (v : Byte) (s : State) : State :=
  { s with N := v[7], Z := v == 0 }

/-- A flag as the number 0 or 1. -/
def bit (b : Bool) : Nat := b.toNat

/-- `PackP(b)`: the flags byte that is pushed, with bit 5 set and bit 4 (B) as given (10_state.md R20, R21). -/
def packP (b : Bool) (s : State) : Byte :=
  BitVec.ofNat 8
    (bit s.N * 128 + bit s.V * 64 + 32 + bit b * 16 + bit s.D * 8 + bit s.I * 4 + bit s.Z * 2 + bit s.C)

/-- `UnpackP(v)`: all six flags from a byte; its bits 5 and 4 are discarded (10_state.md R22). -/
def State.unpackP (v : Byte) (s : State) : State :=
  { s with
    N := v[7]
    V := v[6]
    D := v[3]
    I := v[2]
    Z := v[1]
    C := v[0] }

/-- The result byte of a shift or rotate, and the bit that leaves into C. -/
structure Shifted where
  r : Byte
  c : Bool
  deriving DecidableEq, Repr

/-- ASL: the old carry is not read (43_shift.md R140). -/
def shiftAsl (_ : Bool) (v : Byte) : Shifted := ⟨v <<< 1, v[7]⟩

/-- LSR: the old carry is not read; bit 7 of the result is 0, so N becomes 0 (43_shift.md R141). -/
def shiftLsr (_ : Bool) (v : Byte) : Shifted := ⟨v >>> 1, v[0]⟩

/-- ROL: the old carry enters at bit 0 (43_shift.md R142). -/
def shiftRol (c : Bool) (v : Byte) : Shifted := ⟨v <<< 1 + BitVec.ofNat 8 (bit c), v[7]⟩

/-- ROR: the old carry enters at bit 7 (43_shift.md R143). -/
def shiftRor (c : Bool) (v : Byte) : Shifted := ⟨v >>> 1 + BitVec.ofNat 8 (128 * bit c), v[0]⟩

/-- C and then N, Z from a shifted byte (43_shift.md R140 to R143). -/
def State.setShiftFlags (r : Shifted) (s : State) : State := (s.setFlag .c r.c).setNZ r.r

/-- The flags of a compare of a register with `m`, unsigned: C is "no borrow", V is not written (44_logical.md R154). -/
def State.setCompareFlags (r m : Byte) (s : State) : State :=
  (s.setFlag .c (decide (m.toNat ≤ r.toNat))).setNZ (r - m)

/-- Z from `A & M`, of the memory byte before any write (44_logical.md R153, R157, R158). -/
def State.setTestZ (m : Byte) (s : State) : State := s.setFlag .z (s.A &&& m == 0)

/-- The flags of BIT with a memory operand: N and V are bits 7 and 6 of the byte itself (44_logical.md R153). -/
def State.setBitFlags (m : Byte) (s : State) : State :=
  ((s.setTestZ m).setFlag .n (m[7])).setFlag .v (m[6])

/-- The result byte and the four flags of an addition or subtraction. -/
structure Sum where
  r : Byte
  n : Bool
  v : Bool
  z : Bool
  c : Bool
  deriving DecidableEq, Repr

/-- Binary ADC: the exact sum, narrowed (45_math.md R165). -/
def addBinary (a m : Byte) (c : Bool) : Sum :=
  let sum := a.toNat + m.toNat + bit c
  let r := BitVec.ofNat 8 sum
  { r := r
    n := r[7]
    v := ((a ^^^ r) &&& (m ^^^ r) &&& 0x80) != 0
    z := r == 0
    c := decide (256 ≤ sum) }

/-- Binary SBC: the same adder, fed the one's complement of `m` (45_math.md R166). -/
def subBinary (a m : Byte) (c : Bool) : Sum :=
  let sum := a.toNat + (255 - m.toNat) + bit c
  let r := BitVec.ofNat 8 sum
  { r := r
    n := r[7]
    v := ((a ^^^ m) &&& (a ^^^ r) &&& 0x80) != 0
    z := r == 0
    c := decide (256 ≤ sum) }

/-- Both halves of the byte are digits 0 to 9 (45_math.md R167). -/
def validBcd (b : Byte) : Bool := decide (b.toNat / 16 ≤ 9) && decide (b.toNat % 16 ≤ 9)

/-- `dec(b)`: the number a valid BCD byte stands for (45_math.md R167). -/
def decOf (b : Byte) : Nat := 10 * (b.toNat / 16) + b.toNat % 16

/-- `bcd(n)`: the BCD byte of a number 0 to 99 (45_math.md R167). -/
def bcdOf (n : Nat) : Byte := BitVec.ofNat 8 (16 * (n / 10) + n % 10)

/-- What a decimal step draws when an operand is not valid BCD: all five outputs (45_math.md R167, R168 case 2). -/
def drawnSum (draw : BcdDraw) : Sum :=
  { r := draw.a, n := draw.n, v := draw.v, z := draw.z, c := draw.c }

/-- Decimal ADC: V is drawn; for operands that are not valid BCD everything is (45_math.md R167). -/
def addDecimal (a m : Byte) (c : Bool) (draw : BcdDraw) : Sum :=
  if validBcd a && validBcd m then
    let sum := decOf a + decOf m + bit c
    let r := bcdOf (sum % 100)
    { r := r, n := r[7], v := draw.v, z := r == 0, c := decide (100 ≤ sum) }
  else drawnSum draw

/-- Decimal SBC: V is drawn; for operands that are not valid BCD everything is (45_math.md R168). -/
def subDecimal (a m : Byte) (c : Bool) (draw : BcdDraw) : Sum :=
  if validBcd a && validBcd m then
    let diff : Int := (decOf a : Int) - decOf m - (1 - bit c)
    let r := bcdOf (diff % 100).toNat
    { r := r, n := r[7], v := draw.v, z := r == 0, c := decide (0 ≤ diff) }
  else drawnSum draw

/-- A and N, V, Z, C from a sum (45_math.md R165 to R168). -/
def State.setSum (r : Sum) (s : State) : State :=
  { s with A := r.r, N := r.n, V := r.v, Z := r.z, C := r.c }

/-- The free values go on to the next index (log 5). -/
def State.nextDraw (s : State) : State := { s with draws := s.draws + 1 }

/-- ADC: D selects the decimal form, which uses up one draw (45_math.md R165, R167, R169). -/
def State.addWithCarry (m : Byte) (s : State) : State :=
  if s.D then s.nextDraw.setSum (addDecimal s.A m s.C (Config.bcdDraw s.draws))
  else s.setSum (addBinary s.A m s.C)

/-- SBC: D selects the decimal form, which uses up one draw (45_math.md R166, R168, R169). -/
def State.subWithBorrow (m : Byte) (s : State) : State :=
  if s.D then s.nextDraw.setSum (subDecimal s.A m s.C (Config.bcdDraw s.draws))
  else s.setSum (subBinary s.A m s.C)

end Sys2Proof.Machine
end

