-- ==== Sys2Proof/Machine/Ops.lean ====
section
/-! DEFINITION. The named operations over memory and registers: reads and writes of one byte, pointers, the stack, taking an
exception and returning from one (10_state.md R10 to R16, 20_memory.md, 49_misc.md R221, 60_exceptions.md R237). -/

namespace Sys2Proof.Machine

/-- Go on with the value of the first part of a step, or stop as it stops. -/
def andThen {α β : Type} (r : Result α) (k : α → Result β) : Result β :=
  match r with
  | .next a => k a
  | .fault f => .fault f
  | .refused q => .refused q

/-! ## Registers -/

/-- The 8-bit registers (10_state.md R10 to R13). -/
inductive Reg where
  | a | x | y | s
  deriving DecidableEq, Repr

def State.reg (r : Reg) (st : State) : Byte :=
  match r with
  | .a => st.A
  | .x => st.X
  | .y => st.Y
  | .s => st.S

def State.setReg (r : Reg) (v : Byte) (st : State) : State :=
  match r with
  | .a => { st with A := v }
  | .x => { st with X := v }
  | .y => { st with Y := v }
  | .s => { st with S := v }

/-- Control goes to `a`. -/
def State.setPC (a : Addr) (st : State) : State := { st with PC := a }

/-- The address of the next instruction, after one of `size` bytes (10_state.md R14). -/
def State.nextPC (size : Nat) (st : State) : Addr := st.PC + BitVec.ofNat 16 size

/-- `PC <- next`, after an instruction of `size` bytes (10_state.md R14). -/
def State.advance (size : Nat) (st : State) : State := st.setPC (st.nextPC size)

/-! ## Memory as a list of cells -/

/-- The byte at an address: that of the first cell listed for it, else the blank byte. -/
def Memory.read (m : Memory) (a : Nat) : Byte :=
  match m with
  | [] => blankByte
  | (k, v) :: rest => if k = a then v else Memory.read rest a

/-- The memory with no cell listed for an address. -/
def Memory.erase (m : Memory) (a : Nat) : Memory :=
  match m with
  | [] => []
  | (k, v) :: rest => if k = a then Memory.erase rest a else (k, v) :: Memory.erase rest a

/-- The memory with a cell put before the first one of a higher address. -/
def Memory.insert (m : Memory) (a : Nat) (v : Byte) : Memory :=
  match m with
  | [] => [(a, v)]
  | (k, u) :: rest => if a < k then (a, v) :: (k, u) :: rest else (k, u) :: Memory.insert rest a v

/-- The memory changed at one address; writing the blank byte removes the cell. -/
def Memory.write (m : Memory) (a : Nat) (v : Byte) : Memory :=
  if v = blankByte then Memory.erase m a else Memory.insert (Memory.erase m a) a v

/-- Every cell's address is at least `low`, they rise strictly and stay in the address space, and no cell holds the blank
byte. -/
def Memory.wfFrom (m : Memory) (low : Nat) : Bool :=
  match m with
  | [] => true
  | (k, v) :: rest => decide (low ≤ k) && decide (k < 65536) && decide (v ≠ blankByte) && Memory.wfFrom rest (k + 1)

/-- The canonical form: equal memories are equal lists. -/
def Memory.wf (m : Memory) : Bool := Memory.wfFrom m 0

/-! ## Accesses of one byte -/

def Region.holds (r : Region) (a : Addr) : Bool := decide (r.first ≤ a) && decide (a ≤ r.last)

/-- The kind of an address in a memory map: that of the first region that holds it, else plain memory (20_memory.md R46). -/
def kindIn (map : List Region) (a : Addr) : MemKind :=
  match map with
  | [] => .ram
  | r :: rest => if r.holds a then r.kind else kindIn rest a

/-- The kind of an address of this platform (20_memory.md R46). -/
def State.kindOf (a : Addr) (st : State) : MemKind := kindIn st.memMap a

/-- The byte that memory holds at an address, whatever may be accessed there. -/
def State.peek (a : Addr) (st : State) : Byte := st.mem.read a.toNat

/-- The state with one byte of memory changed, whatever may be accessed there. -/
def State.poke (a : Addr) (v : Byte) (st : State) : State := { st with mem := st.mem.write a.toNat v }

/-- `MemRead(a, 1)` (20_memory.md R40, R46, logs 12, 13). -/
def readByte (a : Addr) (st : State) : Result Byte :=
  match st.kindOf a with
  | .ram | .rom => .next (st.peek a)
  | .absent => .fault (.absentAddress a)
  | .device => .refused (.deviceAccess a)

/-- `MemWrite(a, 1, v)` (20_memory.md R40, R46, log 13). -/
def writeByte (a : Addr) (v : Byte) (st : State) : Result State :=
  match st.kindOf a with
  | .ram => .next (st.poke a v)
  | .rom => .fault (.romWrite a)
  | .absent => .fault (.absentAddress a)
  | .device => .refused (.deviceAccess a)

/-- The address in page 0 that a byte names (30_encoding.md R74). -/
def zeroPage (zp : Byte) : Addr := zp.setWidth 16

/-- `Read16(a)`: low byte first, the high byte from the next 16-bit address (20_memory.md R43). -/
def read16 (a : Addr) (st : State) : Result Addr :=
  andThen (readByte a st) fun lo =>
  andThen (readByte (a + 1) st) fun hi =>
  .next (word16 hi lo)

/-- `Read16ZP(zp)`: both bytes come from page 0 (20_memory.md R44). -/
def read16ZP (zp : Byte) (st : State) : Result Addr :=
  andThen (readByte (zeroPage zp) st) fun lo =>
  andThen (readByte (zeroPage (zp + 1)) st) fun hi =>
  .next (word16 hi lo)

/-! ## The stack -/

/-- The address in page 1 that a stack pointer denotes (10_state.md R13). -/
def stackAddr (s : Byte) : Addr := word16 0x01 s

/-- `Push(v)` (10_state.md R15). -/
def push (v : Byte) (st : State) : Result State :=
  andThen (writeByte (stackAddr st.S) v st) fun t => .next (t.setReg .s (t.S - 1))

/-- `Pull()`: the byte, and the state with S moved up (10_state.md R16). -/
def pull (st : State) : Result (Byte × State) :=
  andThen (readByte (stackAddr (st.S + 1)) st) fun v => .next (v, st.setReg .s (st.S + 1))

/-- A 16-bit value is pushed high byte first (20_memory.md R41). -/
def push16 (w : Addr) (st : State) : Result State :=
  andThen (push (hi8 w) st) fun t => push (lo8 w) t

/-- A 16-bit value is pulled low byte first (46_flow.md R183). -/
def pull16 (st : State) : Result (Addr × State) :=
  andThen (pull st) fun lo =>
  andThen (pull lo.2) fun hi =>
  .next (word16 hi.1 lo.1, hi.2)

/-! ## Taking an exception and returning from one -/

/-- The pointer of NMI (20_memory.md R47). -/
def nmiVector : Addr := 0xFFFA

/-- The pointer of RESET (20_memory.md R47). -/
def resetVector : Addr := 0xFFFC

/-- The pointer of IRQ and BRK (20_memory.md R47). -/
def irqVector : Addr := 0xFFFE

/-- Taking an exception: push the return address and the flags byte with the given B, set I, clear D, go to the handler
whose address stands at `vector`, read after the pushes (49_misc.md R221, 60_exceptions.md R237, R241). -/
def enterHandler (ret : Addr) (b : Bool) (vector : Addr) (st : State) : Result State :=
  andThen (push16 ret st) fun t =>
  andThen (push (packP b st) t) fun u =>
  andThen (read16 vector u) fun handler =>
  .next (((u.setFlag .i true).setFlag .d false).setPC handler)

/-- Returning from an exception: pull the flags byte, then the address, which is where control goes (46_flow.md R184). -/
def returnFromHandler (st : State) : Result State :=
  andThen (pull st) fun p =>
  andThen (pull16 (p.2.unpackP p.1)) fun ret =>
  .next (ret.2.setPC ret.1)

end Sys2Proof.Machine
end

