-- ==== Sys2Proof/Machine/Operands.lean ====
section
/-! DEFINITION. The addressing modes: the effective address, the operand and the targets of jumps and branches
(30_encoding.md R70 to R84), and the four shapes of an instruction over its operand: read, store, change in place, branch. -/

namespace Sys2Proof.Machine

/-- The effective address of a memory mode; indirect modes read their pointer (30_encoding.md R73 to R78, R80, R82, R83). -/
def effectiveAddress (m : MemMode) (st : State) : Result Addr :=
  match m with
  | .zpg zp => .next (zeroPage zp)
  | .zpx zp => .next (zeroPage (zp + st.X))
  | .zpy zp => .next (zeroPage (zp + st.Y))
  | .izx zp => read16ZP (zp + st.X) st
  | .izy zp => andThen (read16ZP zp st) fun base => .next (base + st.Y.setWidth 16)
  | .izp zp => read16ZP zp st
  | .abs a => .next a
  | .abx a => .next (a + st.X.setWidth 16)
  | .aby a => .next (a + st.Y.setWidth 16)

/-- The operand `M` of an instruction that only reads (30_encoding.md R72 to R83). -/
def readSource (src : Source) (st : State) : Result Byte :=
  match src with
  | .imm v => .next v
  | .mem m => andThen (effectiveAddress m st) fun ea => readByte ea st

/-- An instruction that reads `M` and changes registers and flags by it. -/
def readOp (f : Byte → State → State) (src : Source) (st : State) : Result State :=
  andThen (readSource src st) fun v => .next ((f v st).advance src.size)

/-- An instruction that stores a byte at its effective address, without reading there (40_load_store.md R103). -/
def storeOp (v : Byte) (m : MemMode) (st : State) : Result State :=
  andThen (effectiveAddress m st) fun ea =>
  andThen (writeByte ea v st) fun t => .next (t.advance m.size)

/-- An instruction that changes a byte of memory: one read, then one write of the same address, then the flags, which are
computed from the old byte (20_memory.md R48). -/
def modifyMem (f : Byte → Byte) (flags : Byte → State → State) (m : MemMode) (st : State) : Result State :=
  andThen (effectiveAddress m st) fun ea =>
  andThen (readByte ea st) fun v =>
  andThen (writeByte ea (f v) st) fun t => .next ((flags v t).advance m.size)

/-- A one-byte instruction that changes registers and flags only. -/
def impliedOp (f : State → State) (st : State) : Result State := .next ((f st).advance 1)

/-- The destination of a branch: the displacement counts from the next instruction (30_encoding.md R79). -/
def branchTarget (d : Int) (st : State) : Addr := st.nextPC 2 + BitVec.ofInt 16 d

/-- A branch on a condition (46_flow.md R181). -/
def branchOp (taken : Bool) (d : Int) (st : State) : Result State :=
  .next (if taken then st.setPC (branchTarget d st) else st.advance 2)

end Sys2Proof.Machine
end

