-- ==== Sys2Proof/Machine/Flow.lean ====
section
/-! DEFINITION. The meanings of the flow control family: JMP JSR RTS RTI BRA BEQ BNE BCC BCS BVC BVS BMI BPL (46_flow.md). -/

namespace Sys2Proof.Machine

/-- A jump through a pointer (30_encoding.md R81, R84). -/
def jumpThrough (p : Addr) (st : State) : Result State :=
  andThen (read16 p st) fun a => .next (st.setPC a)

/-- One of the two pushes of a JSR falls on its own second or third byte: the case the spec refuses
(46_flow.md R182, 93_implementation_defined.md U9, log 15). -/
def jsrOverwritesOperand (st : State) : Bool :=
  [stackAddr st.S, stackAddr (st.S - 1)].any fun a => a == st.PC + 1 || a == st.PC + 2

/-- `JMP Abs` (R180). -/
def execJmpAbs (a : Addr) (st : State) : Result State :=
  .next (st.setPC a)

/-- `JMP (Abs)` (R180). -/
def execJmpInd (p : Addr) (st : State) : Result State :=
  jumpThrough p st

/-- `JMP (Abs,X)` (R180). -/
def execJmpIax (p : Addr) (st : State) : Result State :=
  jumpThrough (p + st.X.setWidth 16) st

/-- `JSR Abs` (R182): the pushed value is the address of its third byte. -/
def execJsr (a : Addr) (st : State) : Result State :=
  if jsrOverwritesOperand st then .refused .jsrOverwritesItself
  else andThen (push16 (st.PC + 2) st) fun t => .next (t.setPC a)

/-- `RTS` (R183): the added 1 undoes the offset of JSR. -/
def execRts (st : State) : Result State :=
  andThen (pull16 st) fun ret => .next (ret.2.setPC (ret.1 + 1))

/-- `RTI` (R184). -/
def execRti (st : State) : Result State :=
  returnFromHandler st

/-- `BRA Oper` (R185). -/
def execBra (d : Int) (st : State) : Result State :=
  branchOp true d st

/-- `BEQ Oper` (R186). -/
def execBeq (d : Int) (st : State) : Result State :=
  branchOp st.Z d st

/-- `BNE Oper` (R187). -/
def execBne (d : Int) (st : State) : Result State :=
  branchOp (!st.Z) d st

/-- `BCC Oper` (R188). -/
def execBcc (d : Int) (st : State) : Result State :=
  branchOp (!st.C) d st

/-- `BCS Oper` (R189). -/
def execBcs (d : Int) (st : State) : Result State :=
  branchOp st.C d st

/-- `BVC Oper` (R190). -/
def execBvc (d : Int) (st : State) : Result State :=
  branchOp (!st.V) d st

/-- `BVS Oper` (R191). -/
def execBvs (d : Int) (st : State) : Result State :=
  branchOp st.V d st

/-- `BMI Oper` (R192). -/
def execBmi (d : Int) (st : State) : Result State :=
  branchOp st.N d st

/-- `BPL Oper` (R193). -/
def execBpl (d : Int) (st : State) : Result State :=
  branchOp (!st.N) d st

end Sys2Proof.Machine
end

