-- ==== Sys2Proof/Machine/IncDec.lean ====
section
/-! DEFINITION. The meanings of the increment and decrement family: INA INX INY DEA DEX DEY INC DEC (42_inc_dec.md). -/

namespace Sys2Proof.Machine

/-- A step of a register: N and Z follow it, C, V and D play no part (42_inc_dec.md R130 to R135). -/
def stepReg (r : Reg) (f : Byte → Byte) (st : State) : Result State :=
  impliedOp (fun t => (t.setReg r (f (t.reg r))).setNZ (f (t.reg r))) st

/-- A step of a byte of memory: N and Z follow the stored byte (42_inc_dec.md R136, R137). -/
def stepMem (f : Byte → Byte) (m : MemMode) (st : State) : Result State :=
  modifyMem f (fun v t => t.setNZ (f v)) m st

/-- `INA` (R130). -/
def execIna (st : State) : Result State :=
  stepReg .a (· + 1) st

/-- `INX` (R131). -/
def execInx (st : State) : Result State :=
  stepReg .x (· + 1) st

/-- `INY` (R132). -/
def execIny (st : State) : Result State :=
  stepReg .y (· + 1) st

/-- `DEA` (R133). -/
def execDea (st : State) : Result State :=
  stepReg .a (· - 1) st

/-- `DEX` (R134). -/
def execDex (st : State) : Result State :=
  stepReg .x (· - 1) st

/-- `DEY` (R135). -/
def execDey (st : State) : Result State :=
  stepReg .y (· - 1) st

/-- `INC Zpg` (R136). -/
def execIncZpg (zp : Byte) (st : State) : Result State :=
  stepMem (· + 1) (.zpg zp) st

/-- `INC Zpg,X` (R136). -/
def execIncZpx (zp : Byte) (st : State) : Result State :=
  stepMem (· + 1) (.zpx zp) st

/-- `INC Abs` (R136). -/
def execIncAbs (a : Addr) (st : State) : Result State :=
  stepMem (· + 1) (.abs a) st

/-- `INC Abs,X` (R136). -/
def execIncAbx (a : Addr) (st : State) : Result State :=
  stepMem (· + 1) (.abx a) st

/-- `DEC Zpg` (R137). -/
def execDecZpg (zp : Byte) (st : State) : Result State :=
  stepMem (· - 1) (.zpg zp) st

/-- `DEC Zpg,X` (R137). -/
def execDecZpx (zp : Byte) (st : State) : Result State :=
  stepMem (· - 1) (.zpx zp) st

/-- `DEC Abs` (R137). -/
def execDecAbs (a : Addr) (st : State) : Result State :=
  stepMem (· - 1) (.abs a) st

/-- `DEC Abs,X` (R137). -/
def execDecAbx (a : Addr) (st : State) : Result State :=
  stepMem (· - 1) (.abx a) st

end Sys2Proof.Machine
end

