-- ==== Sys2Proof/Machine/LoadStore.lean ====
section
/-! DEFINITION. The meanings of the load and store family: LDA LDX LDY STA STX STY STZ (40_load_store.md). -/

namespace Sys2Proof.Machine

/-- A load: the register takes the operand, N and Z follow it (40_load_store.md R100 to R102). -/
def load (r : Reg) (src : Source) (st : State) : Result State :=
  readOp (fun v t => (t.setReg r v).setNZ v) src st

/-- `LDA #Oper` (R100). -/
def execLdaImm (v : Byte) (st : State) : Result State :=
  load .a (.imm v) st

/-- `LDA Zpg` (R100). -/
def execLdaZpg (zp : Byte) (st : State) : Result State :=
  load .a (.mem (.zpg zp)) st

/-- `LDA Zpg,X` (R100). -/
def execLdaZpx (zp : Byte) (st : State) : Result State :=
  load .a (.mem (.zpx zp)) st

/-- `LDA Abs` (R100). -/
def execLdaAbs (a : Addr) (st : State) : Result State :=
  load .a (.mem (.abs a)) st

/-- `LDA Abs,X` (R100). -/
def execLdaAbx (a : Addr) (st : State) : Result State :=
  load .a (.mem (.abx a)) st

/-- `LDA Abs,Y` (R100). -/
def execLdaAby (a : Addr) (st : State) : Result State :=
  load .a (.mem (.aby a)) st

/-- `LDA (Zpg,X)` (R100). -/
def execLdaIzx (zp : Byte) (st : State) : Result State :=
  load .a (.mem (.izx zp)) st

/-- `LDA (Zpg),Y` (R100). -/
def execLdaIzy (zp : Byte) (st : State) : Result State :=
  load .a (.mem (.izy zp)) st

/-- `LDA (Zpg)` (R100). -/
def execLdaIzp (zp : Byte) (st : State) : Result State :=
  load .a (.mem (.izp zp)) st

/-- `LDX #Oper` (R101). -/
def execLdxImm (v : Byte) (st : State) : Result State :=
  load .x (.imm v) st

/-- `LDX Zpg` (R101). -/
def execLdxZpg (zp : Byte) (st : State) : Result State :=
  load .x (.mem (.zpg zp)) st

/-- `LDX Zpg,Y` (R101). -/
def execLdxZpy (zp : Byte) (st : State) : Result State :=
  load .x (.mem (.zpy zp)) st

/-- `LDX Abs` (R101). -/
def execLdxAbs (a : Addr) (st : State) : Result State :=
  load .x (.mem (.abs a)) st

/-- `LDX Abs,Y` (R101). -/
def execLdxAby (a : Addr) (st : State) : Result State :=
  load .x (.mem (.aby a)) st

/-- `LDY #Oper` (R102). -/
def execLdyImm (v : Byte) (st : State) : Result State :=
  load .y (.imm v) st

/-- `LDY Zpg` (R102). -/
def execLdyZpg (zp : Byte) (st : State) : Result State :=
  load .y (.mem (.zpg zp)) st

/-- `LDY Zpg,X` (R102). -/
def execLdyZpx (zp : Byte) (st : State) : Result State :=
  load .y (.mem (.zpx zp)) st

/-- `LDY Abs` (R102). -/
def execLdyAbs (a : Addr) (st : State) : Result State :=
  load .y (.mem (.abs a)) st

/-- `LDY Abs,X` (R102). -/
def execLdyAbx (a : Addr) (st : State) : Result State :=
  load .y (.mem (.abx a)) st

/-- `STA Zpg` (R103). -/
def execStaZpg (zp : Byte) (st : State) : Result State :=
  storeOp st.A (.zpg zp) st

/-- `STA Zpg,X` (R103). -/
def execStaZpx (zp : Byte) (st : State) : Result State :=
  storeOp st.A (.zpx zp) st

/-- `STA Abs` (R103). -/
def execStaAbs (a : Addr) (st : State) : Result State :=
  storeOp st.A (.abs a) st

/-- `STA Abs,X` (R103). -/
def execStaAbx (a : Addr) (st : State) : Result State :=
  storeOp st.A (.abx a) st

/-- `STA Abs,Y` (R103). -/
def execStaAby (a : Addr) (st : State) : Result State :=
  storeOp st.A (.aby a) st

/-- `STA (Zpg,X)` (R103). -/
def execStaIzx (zp : Byte) (st : State) : Result State :=
  storeOp st.A (.izx zp) st

/-- `STA (Zpg),Y` (R103). -/
def execStaIzy (zp : Byte) (st : State) : Result State :=
  storeOp st.A (.izy zp) st

/-- `STA (Zpg)` (R103). -/
def execStaIzp (zp : Byte) (st : State) : Result State :=
  storeOp st.A (.izp zp) st

/-- `STX Zpg` (R104). -/
def execStxZpg (zp : Byte) (st : State) : Result State :=
  storeOp st.X (.zpg zp) st

/-- `STX Zpg,Y` (R104). -/
def execStxZpy (zp : Byte) (st : State) : Result State :=
  storeOp st.X (.zpy zp) st

/-- `STX Abs` (R104). -/
def execStxAbs (a : Addr) (st : State) : Result State :=
  storeOp st.X (.abs a) st

/-- `STY Zpg` (R105). -/
def execStyZpg (zp : Byte) (st : State) : Result State :=
  storeOp st.Y (.zpg zp) st

/-- `STY Zpg,X` (R105). -/
def execStyZpx (zp : Byte) (st : State) : Result State :=
  storeOp st.Y (.zpx zp) st

/-- `STY Abs` (R105). -/
def execStyAbs (a : Addr) (st : State) : Result State :=
  storeOp st.Y (.abs a) st

/-- `STZ Zpg` (R106). -/
def execStzZpg (zp : Byte) (st : State) : Result State :=
  storeOp 0x00 (.zpg zp) st

/-- `STZ Zpg,X` (R106). -/
def execStzZpx (zp : Byte) (st : State) : Result State :=
  storeOp 0x00 (.zpx zp) st

/-- `STZ Abs` (R106). -/
def execStzAbs (a : Addr) (st : State) : Result State :=
  storeOp 0x00 (.abs a) st

/-- `STZ Abs,X` (R106). -/
def execStzAbx (a : Addr) (st : State) : Result State :=
  storeOp 0x00 (.abx a) st

end Sys2Proof.Machine
end

