-- ==== Sys2Proof/Machine/Logical.lean ====
section
/-! DEFINITION. The meanings of the logical family: AND ORA EOR BIT CMP CPX CPY TRB TSB (44_logical.md). -/

namespace Sys2Proof.Machine

/-- A bitwise operation into A: N and Z follow it (44_logical.md R150 to R152). -/
def logicOp (f : Byte → Byte → Byte) (src : Source) (st : State) : Result State :=
  readOp (fun v t => (t.setReg .a (f t.A v)).setNZ (f t.A v)) src st

/-- BIT: with an immediate operand N and V are untouched (44_logical.md R153). -/
def bitTest (src : Source) (st : State) : Result State :=
  match src with
  | .imm _ => readOp State.setTestZ src st
  | .mem _ => readOp State.setBitFlags src st

/-- A compare of a register: only N, Z and C change (44_logical.md R154 to R156). -/
def compare (r : Reg) (src : Source) (st : State) : Result State :=
  readOp (fun v t => t.setCompareFlags (t.reg r) v) src st

/-- TRB and TSB: Z from the old byte, then the byte with A's bits changed (44_logical.md R157, R158). -/
def testAndChange (f : Byte → Byte → Byte) (m : MemMode) (st : State) : Result State :=
  modifyMem (f st.A) State.setTestZ m st

/-- `AND #Oper` (R150). -/
def execAndImm (v : Byte) (st : State) : Result State :=
  logicOp (· &&& ·) (.imm v) st

/-- `AND Zpg` (R150). -/
def execAndZpg (zp : Byte) (st : State) : Result State :=
  logicOp (· &&& ·) (.mem (.zpg zp)) st

/-- `AND Zpg,X` (R150). -/
def execAndZpx (zp : Byte) (st : State) : Result State :=
  logicOp (· &&& ·) (.mem (.zpx zp)) st

/-- `AND Abs` (R150). -/
def execAndAbs (a : Addr) (st : State) : Result State :=
  logicOp (· &&& ·) (.mem (.abs a)) st

/-- `AND Abs,X` (R150). -/
def execAndAbx (a : Addr) (st : State) : Result State :=
  logicOp (· &&& ·) (.mem (.abx a)) st

/-- `AND Abs,Y` (R150). -/
def execAndAby (a : Addr) (st : State) : Result State :=
  logicOp (· &&& ·) (.mem (.aby a)) st

/-- `AND (Zpg,X)` (R150). -/
def execAndIzx (zp : Byte) (st : State) : Result State :=
  logicOp (· &&& ·) (.mem (.izx zp)) st

/-- `AND (Zpg),Y` (R150). -/
def execAndIzy (zp : Byte) (st : State) : Result State :=
  logicOp (· &&& ·) (.mem (.izy zp)) st

/-- `AND (Zpg)` (R150). -/
def execAndIzp (zp : Byte) (st : State) : Result State :=
  logicOp (· &&& ·) (.mem (.izp zp)) st

/-- `ORA #Oper` (R151). -/
def execOraImm (v : Byte) (st : State) : Result State :=
  logicOp (· ||| ·) (.imm v) st

/-- `ORA Zpg` (R151). -/
def execOraZpg (zp : Byte) (st : State) : Result State :=
  logicOp (· ||| ·) (.mem (.zpg zp)) st

/-- `ORA Zpg,X` (R151). -/
def execOraZpx (zp : Byte) (st : State) : Result State :=
  logicOp (· ||| ·) (.mem (.zpx zp)) st

/-- `ORA Abs` (R151). -/
def execOraAbs (a : Addr) (st : State) : Result State :=
  logicOp (· ||| ·) (.mem (.abs a)) st

/-- `ORA Abs,X` (R151). -/
def execOraAbx (a : Addr) (st : State) : Result State :=
  logicOp (· ||| ·) (.mem (.abx a)) st

/-- `ORA Abs,Y` (R151). -/
def execOraAby (a : Addr) (st : State) : Result State :=
  logicOp (· ||| ·) (.mem (.aby a)) st

/-- `ORA (Zpg,X)` (R151). -/
def execOraIzx (zp : Byte) (st : State) : Result State :=
  logicOp (· ||| ·) (.mem (.izx zp)) st

/-- `ORA (Zpg),Y` (R151). -/
def execOraIzy (zp : Byte) (st : State) : Result State :=
  logicOp (· ||| ·) (.mem (.izy zp)) st

/-- `ORA (Zpg)` (R151). -/
def execOraIzp (zp : Byte) (st : State) : Result State :=
  logicOp (· ||| ·) (.mem (.izp zp)) st

/-- `EOR #Oper` (R152). -/
def execEorImm (v : Byte) (st : State) : Result State :=
  logicOp (· ^^^ ·) (.imm v) st

/-- `EOR Zpg` (R152). -/
def execEorZpg (zp : Byte) (st : State) : Result State :=
  logicOp (· ^^^ ·) (.mem (.zpg zp)) st

/-- `EOR Zpg,X` (R152). -/
def execEorZpx (zp : Byte) (st : State) : Result State :=
  logicOp (· ^^^ ·) (.mem (.zpx zp)) st

/-- `EOR Abs` (R152). -/
def execEorAbs (a : Addr) (st : State) : Result State :=
  logicOp (· ^^^ ·) (.mem (.abs a)) st

/-- `EOR Abs,X` (R152). -/
def execEorAbx (a : Addr) (st : State) : Result State :=
  logicOp (· ^^^ ·) (.mem (.abx a)) st

/-- `EOR Abs,Y` (R152). -/
def execEorAby (a : Addr) (st : State) : Result State :=
  logicOp (· ^^^ ·) (.mem (.aby a)) st

/-- `EOR (Zpg,X)` (R152). -/
def execEorIzx (zp : Byte) (st : State) : Result State :=
  logicOp (· ^^^ ·) (.mem (.izx zp)) st

/-- `EOR (Zpg),Y` (R152). -/
def execEorIzy (zp : Byte) (st : State) : Result State :=
  logicOp (· ^^^ ·) (.mem (.izy zp)) st

/-- `EOR (Zpg)` (R152). -/
def execEorIzp (zp : Byte) (st : State) : Result State :=
  logicOp (· ^^^ ·) (.mem (.izp zp)) st

/-- `BIT #Oper` (R153). -/
def execBitImm (v : Byte) (st : State) : Result State :=
  bitTest (.imm v) st

/-- `BIT Zpg` (R153). -/
def execBitZpg (zp : Byte) (st : State) : Result State :=
  bitTest (.mem (.zpg zp)) st

/-- `BIT Zpg,X` (R153). -/
def execBitZpx (zp : Byte) (st : State) : Result State :=
  bitTest (.mem (.zpx zp)) st

/-- `BIT Abs` (R153). -/
def execBitAbs (a : Addr) (st : State) : Result State :=
  bitTest (.mem (.abs a)) st

/-- `BIT Abs,X` (R153). -/
def execBitAbx (a : Addr) (st : State) : Result State :=
  bitTest (.mem (.abx a)) st

/-- `CMP #Oper` (R154). -/
def execCmpImm (v : Byte) (st : State) : Result State :=
  compare .a (.imm v) st

/-- `CMP Zpg` (R154). -/
def execCmpZpg (zp : Byte) (st : State) : Result State :=
  compare .a (.mem (.zpg zp)) st

/-- `CMP Zpg,X` (R154). -/
def execCmpZpx (zp : Byte) (st : State) : Result State :=
  compare .a (.mem (.zpx zp)) st

/-- `CMP Abs` (R154). -/
def execCmpAbs (a : Addr) (st : State) : Result State :=
  compare .a (.mem (.abs a)) st

/-- `CMP Abs,X` (R154). -/
def execCmpAbx (a : Addr) (st : State) : Result State :=
  compare .a (.mem (.abx a)) st

/-- `CMP Abs,Y` (R154). -/
def execCmpAby (a : Addr) (st : State) : Result State :=
  compare .a (.mem (.aby a)) st

/-- `CMP (Zpg,X)` (R154). -/
def execCmpIzx (zp : Byte) (st : State) : Result State :=
  compare .a (.mem (.izx zp)) st

/-- `CMP (Zpg),Y` (R154). -/
def execCmpIzy (zp : Byte) (st : State) : Result State :=
  compare .a (.mem (.izy zp)) st

/-- `CMP (Zpg)` (R154). -/
def execCmpIzp (zp : Byte) (st : State) : Result State :=
  compare .a (.mem (.izp zp)) st

/-- `CPX #Oper` (R155). -/
def execCpxImm (v : Byte) (st : State) : Result State :=
  compare .x (.imm v) st

/-- `CPX Zpg` (R155). -/
def execCpxZpg (zp : Byte) (st : State) : Result State :=
  compare .x (.mem (.zpg zp)) st

/-- `CPX Abs` (R155). -/
def execCpxAbs (a : Addr) (st : State) : Result State :=
  compare .x (.mem (.abs a)) st

/-- `CPY #Oper` (R156). -/
def execCpyImm (v : Byte) (st : State) : Result State :=
  compare .y (.imm v) st

/-- `CPY Zpg` (R156). -/
def execCpyZpg (zp : Byte) (st : State) : Result State :=
  compare .y (.mem (.zpg zp)) st

/-- `CPY Abs` (R156). -/
def execCpyAbs (a : Addr) (st : State) : Result State :=
  compare .y (.mem (.abs a)) st

/-- `TRB Zpg` (R157). -/
def execTrbZpg (zp : Byte) (st : State) : Result State :=
  testAndChange (fun acc v => v &&& ~~~acc) (.zpg zp) st

/-- `TRB Abs` (R157). -/
def execTrbAbs (a : Addr) (st : State) : Result State :=
  testAndChange (fun acc v => v &&& ~~~acc) (.abs a) st

/-- `TSB Zpg` (R158). -/
def execTsbZpg (zp : Byte) (st : State) : Result State :=
  testAndChange (fun acc v => v ||| acc) (.zpg zp) st

/-- `TSB Abs` (R158). -/
def execTsbAbs (a : Addr) (st : State) : Result State :=
  testAndChange (fun acc v => v ||| acc) (.abs a) st

end Sys2Proof.Machine
end

