-- ==== Sys2Proof/Machine/Math.lean ====
section
/-! DEFINITION. The meanings of the math family: ADC SBC (45_math.md). -/

namespace Sys2Proof.Machine

/-- ADC over any of its operands (45_math.md R165, R167). -/
def adc (src : Source) (st : State) : Result State := readOp State.addWithCarry src st

/-- SBC over any of its operands (45_math.md R166, R168). -/
def sbc (src : Source) (st : State) : Result State := readOp State.subWithBorrow src st

/-- `ADC #Oper` (R165). -/
def execAdcImm (v : Byte) (st : State) : Result State :=
  adc (.imm v) st

/-- `ADC Zpg` (R165). -/
def execAdcZpg (zp : Byte) (st : State) : Result State :=
  adc (.mem (.zpg zp)) st

/-- `ADC Zpg,X` (R165). -/
def execAdcZpx (zp : Byte) (st : State) : Result State :=
  adc (.mem (.zpx zp)) st

/-- `ADC Abs` (R165). -/
def execAdcAbs (a : Addr) (st : State) : Result State :=
  adc (.mem (.abs a)) st

/-- `ADC Abs,X` (R165). -/
def execAdcAbx (a : Addr) (st : State) : Result State :=
  adc (.mem (.abx a)) st

/-- `ADC Abs,Y` (R165). -/
def execAdcAby (a : Addr) (st : State) : Result State :=
  adc (.mem (.aby a)) st

/-- `ADC (Zpg,X)` (R165). -/
def execAdcIzx (zp : Byte) (st : State) : Result State :=
  adc (.mem (.izx zp)) st

/-- `ADC (Zpg),Y` (R165). -/
def execAdcIzy (zp : Byte) (st : State) : Result State :=
  adc (.mem (.izy zp)) st

/-- `ADC (Zpg)` (R165). -/
def execAdcIzp (zp : Byte) (st : State) : Result State :=
  adc (.mem (.izp zp)) st

/-- `SBC #Oper` (R166). -/
def execSbcImm (v : Byte) (st : State) : Result State :=
  sbc (.imm v) st

/-- `SBC Zpg` (R166). -/
def execSbcZpg (zp : Byte) (st : State) : Result State :=
  sbc (.mem (.zpg zp)) st

/-- `SBC Zpg,X` (R166). -/
def execSbcZpx (zp : Byte) (st : State) : Result State :=
  sbc (.mem (.zpx zp)) st

/-- `SBC Abs` (R166). -/
def execSbcAbs (a : Addr) (st : State) : Result State :=
  sbc (.mem (.abs a)) st

/-- `SBC Abs,X` (R166). -/
def execSbcAbx (a : Addr) (st : State) : Result State :=
  sbc (.mem (.abx a)) st

/-- `SBC Abs,Y` (R166). -/
def execSbcAby (a : Addr) (st : State) : Result State :=
  sbc (.mem (.aby a)) st

/-- `SBC (Zpg,X)` (R166). -/
def execSbcIzx (zp : Byte) (st : State) : Result State :=
  sbc (.mem (.izx zp)) st

/-- `SBC (Zpg),Y` (R166). -/
def execSbcIzy (zp : Byte) (st : State) : Result State :=
  sbc (.mem (.izy zp)) st

/-- `SBC (Zpg)` (R166). -/
def execSbcIzp (zp : Byte) (st : State) : Result State :=
  sbc (.mem (.izp zp)) st

end Sys2Proof.Machine
end

