-- ==== Sys2Proof/Machine/Misc.lean ====
section
/-! DEFINITION. The meanings of the miscellaneous family: NOP BRK (49_misc.md). -/

namespace Sys2Proof.Machine

/-- `NOP` (R220). -/
def execNop (st : State) : Result State :=
  impliedOp (fun t => t) st

/-- `BRK` (R221): the pushed return address skips the byte after the opcode; I does not mask it. -/
def execBrk (st : State) : Result State :=
  enterHandler (st.PC + 2) true irqVector st

end Sys2Proof.Machine
end

