-- ==== Sys2Proof/Machine/Shift.lean ====
section
/-! DEFINITION. The meanings of the shift family: ASL LSR ROL ROR (43_shift.md). -/

namespace Sys2Proof.Machine

/-- A shift or rotate of A or of a byte of memory, with the carry the instruction found (43_shift.md R140 to R143). -/
def shiftOp (f : Bool → Byte → Shifted) (p : Place) (st : State) : Result State :=
  match p with
  | .acc => impliedOp (fun t => (t.setReg .a (f t.C t.A).r).setShiftFlags (f t.C t.A)) st
  | .mem m => modifyMem (fun v => (f st.C v).r) (fun v t => t.setShiftFlags (f st.C v)) m st

/-- `ASL A` (R140). -/
def execAslAcc (st : State) : Result State :=
  shiftOp shiftAsl .acc st

/-- `ASL Zpg` (R140). -/
def execAslZpg (zp : Byte) (st : State) : Result State :=
  shiftOp shiftAsl (.mem (.zpg zp)) st

/-- `ASL Zpg,X` (R140). -/
def execAslZpx (zp : Byte) (st : State) : Result State :=
  shiftOp shiftAsl (.mem (.zpx zp)) st

/-- `ASL Abs` (R140). -/
def execAslAbs (a : Addr) (st : State) : Result State :=
  shiftOp shiftAsl (.mem (.abs a)) st

/-- `ASL Abs,X` (R140). -/
def execAslAbx (a : Addr) (st : State) : Result State :=
  shiftOp shiftAsl (.mem (.abx a)) st

/-- `LSR A` (R141). -/
def execLsrAcc (st : State) : Result State :=
  shiftOp shiftLsr .acc st

/-- `LSR Zpg` (R141). -/
def execLsrZpg (zp : Byte) (st : State) : Result State :=
  shiftOp shiftLsr (.mem (.zpg zp)) st

/-- `LSR Zpg,X` (R141). -/
def execLsrZpx (zp : Byte) (st : State) : Result State :=
  shiftOp shiftLsr (.mem (.zpx zp)) st

/-- `LSR Abs` (R141). -/
def execLsrAbs (a : Addr) (st : State) : Result State :=
  shiftOp shiftLsr (.mem (.abs a)) st

/-- `LSR Abs,X` (R141). -/
def execLsrAbx (a : Addr) (st : State) : Result State :=
  shiftOp shiftLsr (.mem (.abx a)) st

/-- `ROL A` (R142). -/
def execRolAcc (st : State) : Result State :=
  shiftOp shiftRol .acc st

/-- `ROL Zpg` (R142). -/
def execRolZpg (zp : Byte) (st : State) : Result State :=
  shiftOp shiftRol (.mem (.zpg zp)) st

/-- `ROL Zpg,X` (R142). -/
def execRolZpx (zp : Byte) (st : State) : Result State :=
  shiftOp shiftRol (.mem (.zpx zp)) st

/-- `ROL Abs` (R142). -/
def execRolAbs (a : Addr) (st : State) : Result State :=
  shiftOp shiftRol (.mem (.abs a)) st

/-- `ROL Abs,X` (R142). -/
def execRolAbx (a : Addr) (st : State) : Result State :=
  shiftOp shiftRol (.mem (.abx a)) st

/-- `ROR A` (R143). -/
def execRorAcc (st : State) : Result State :=
  shiftOp shiftRor .acc st

/-- `ROR Zpg` (R143). -/
def execRorZpg (zp : Byte) (st : State) : Result State :=
  shiftOp shiftRor (.mem (.zpg zp)) st

/-- `ROR Zpg,X` (R143). -/
def execRorZpx (zp : Byte) (st : State) : Result State :=
  shiftOp shiftRor (.mem (.zpx zp)) st

/-- `ROR Abs` (R143). -/
def execRorAbs (a : Addr) (st : State) : Result State :=
  shiftOp shiftRor (.mem (.abs a)) st

/-- `ROR Abs,X` (R143). -/
def execRorAbx (a : Addr) (st : State) : Result State :=
  shiftOp shiftRor (.mem (.abx a)) st

end Sys2Proof.Machine
end

