-- ==== Sys2Proof/Machine/Transfer.lean ====
section
/-! DEFINITION. The meanings of the transfer family: TAX TAY TXA TYA (48_transfer.md). -/

namespace Sys2Proof.Machine

/-- A transfer between registers: N and Z follow the byte (48_transfer.md). -/
def transfer (src dst : Reg) (st : State) : Result State :=
  impliedOp (fun t => (t.setReg dst (t.reg src)).setNZ (t.reg src)) st

/-- `TAX` (R210). -/
def execTax (st : State) : Result State :=
  transfer .a .x st

/-- `TAY` (R211). -/
def execTay (st : State) : Result State :=
  transfer .a .y st

/-- `TXA` (R212). -/
def execTxa (st : State) : Result State :=
  transfer .x .a st

/-- `TYA` (R213). -/
def execTya (st : State) : Result State :=
  transfer .y .a st

end Sys2Proof.Machine
end

