-- ==== Sys2Proof/Machine/Stack.lean ====
section
/-! DEFINITION. The meanings of the stack family: PHA PHX PHY PHP PLA PLX PLY PLP TSX TXS (41_stack.md). -/

namespace Sys2Proof.Machine

/-- A push of a byte: no flag changes (41_stack.md R110 to R113). -/
def pushOp (v : Byte) (st : State) : Result State :=
  andThen (push v st) fun t => .next (t.advance 1)

/-- A pull into a register: N and Z follow the byte (41_stack.md R114 to R116). -/
def pullReg (r : Reg) (st : State) : Result State :=
  andThen (pull st) fun p => .next (((p.2.setReg r p.1).setNZ p.1).advance 1)

/-- A pull into P: all six flags are bits of the byte (41_stack.md R117, 90_conflicts.md C5). -/
def pullFlags (st : State) : Result State :=
  andThen (pull st) fun p => .next ((p.2.unpackP p.1).advance 1)

/-- `PHA` (R110). -/
def execPha (st : State) : Result State :=
  pushOp st.A st

/-- `PHX` (R111). -/
def execPhx (st : State) : Result State :=
  pushOp st.X st

/-- `PHY` (R112). -/
def execPhy (st : State) : Result State :=
  pushOp st.Y st

/-- `PHP` (R113). -/
def execPhp (st : State) : Result State :=
  pushOp (packP true st) st

/-- `PLA` (R114). -/
def execPla (st : State) : Result State :=
  pullReg .a st

/-- `PLX` (R115). -/
def execPlx (st : State) : Result State :=
  pullReg .x st

/-- `PLY` (R116). -/
def execPly (st : State) : Result State :=
  pullReg .y st

/-- `PLP` (R117). -/
def execPlp (st : State) : Result State :=
  pullFlags st

/-- `TSX` (R118). -/
def execTsx (st : State) : Result State :=
  transfer .s .x st

/-- `TXS` (R119): no flag changes; 90_conflicts.md C1. -/
def execTxs (st : State) : Result State :=
  impliedOp (fun t => t.setReg .s t.X) st

end Sys2Proof.Machine
end

