-- ==== Sys2Proof/Machine/Status.lean ====
section
/-! DEFINITION. The meanings of the processor status family: CLC CLD CLI CLV SEC SED SEI (47_status.md). -/

namespace Sys2Proof.Machine

/-- An instruction that gives one flag a constant (47_status.md). -/
def flagOp (f : Flag) (b : Bool) (st : State) : Result State := impliedOp (fun t => t.setFlag f b) st

/-- `CLC` (R200). -/
def execClc (st : State) : Result State :=
  flagOp .c false st

/-- `CLD` (R201). -/
def execCld (st : State) : Result State :=
  flagOp .d false st

/-- `CLI` (R202). -/
def execCli (st : State) : Result State :=
  flagOp .i false st

/-- `CLV` (R203). -/
def execClv (st : State) : Result State :=
  flagOp .v false st

/-- `SEC` (R204). -/
def execSec (st : State) : Result State :=
  flagOp .c true st

/-- `SED` (R205). -/
def execSed (st : State) : Result State :=
  flagOp .d true st

/-- `SEI` (R206). -/
def execSei (st : State) : Result State :=
  flagOp .i true st

end Sys2Proof.Machine
end

