-- ==== Sys2Proof/Machine/Dispatch.lean ====
section
/-! DEFINITION. The dispatch of an instruction to its meaning: one arm per constructor of `Instr`. -/

namespace Sys2Proof.Machine

def exec (i : Instr) (s : State) : Host.Outcome State Fault Refusal :=
  match i with
  -- Load and store (40_load_store.md)
  | .ldaImm v => Sys2Proof.Machine.execLdaImm v s
  | .ldaZpg zp => Sys2Proof.Machine.execLdaZpg zp s
  | .ldaZpx zp => Sys2Proof.Machine.execLdaZpx zp s
  | .ldaAbs a => Sys2Proof.Machine.execLdaAbs a s
  | .ldaAbx a => Sys2Proof.Machine.execLdaAbx a s
  | .ldaAby a => Sys2Proof.Machine.execLdaAby a s
  | .ldaIzx zp => Sys2Proof.Machine.execLdaIzx zp s
  | .ldaIzy zp => Sys2Proof.Machine.execLdaIzy zp s
  | .ldaIzp zp => Sys2Proof.Machine.execLdaIzp zp s
  | .ldxImm v => Sys2Proof.Machine.execLdxImm v s
  | .ldxZpg zp => Sys2Proof.Machine.execLdxZpg zp s
  | .ldxZpy zp => Sys2Proof.Machine.execLdxZpy zp s
  | .ldxAbs a => Sys2Proof.Machine.execLdxAbs a s
  | .ldxAby a => Sys2Proof.Machine.execLdxAby a s
  | .ldyImm v => Sys2Proof.Machine.execLdyImm v s
  | .ldyZpg zp => Sys2Proof.Machine.execLdyZpg zp s
  | .ldyZpx zp => Sys2Proof.Machine.execLdyZpx zp s
  | .ldyAbs a => Sys2Proof.Machine.execLdyAbs a s
  | .ldyAbx a => Sys2Proof.Machine.execLdyAbx a s
  | .staZpg zp => Sys2Proof.Machine.execStaZpg zp s
  | .staZpx zp => Sys2Proof.Machine.execStaZpx zp s
  | .staAbs a => Sys2Proof.Machine.execStaAbs a s
  | .staAbx a => Sys2Proof.Machine.execStaAbx a s
  | .staAby a => Sys2Proof.Machine.execStaAby a s
  | .staIzx zp => Sys2Proof.Machine.execStaIzx zp s
  | .staIzy zp => Sys2Proof.Machine.execStaIzy zp s
  | .staIzp zp => Sys2Proof.Machine.execStaIzp zp s
  | .stxZpg zp => Sys2Proof.Machine.execStxZpg zp s
  | .stxZpy zp => Sys2Proof.Machine.execStxZpy zp s
  | .stxAbs a => Sys2Proof.Machine.execStxAbs a s
  | .styZpg zp => Sys2Proof.Machine.execStyZpg zp s
  | .styZpx zp => Sys2Proof.Machine.execStyZpx zp s
  | .styAbs a => Sys2Proof.Machine.execStyAbs a s
  | .stzZpg zp => Sys2Proof.Machine.execStzZpg zp s
  | .stzZpx zp => Sys2Proof.Machine.execStzZpx zp s
  | .stzAbs a => Sys2Proof.Machine.execStzAbs a s
  | .stzAbx a => Sys2Proof.Machine.execStzAbx a s
  -- Stack (41_stack.md)
  | .pha => Sys2Proof.Machine.execPha s
  | .phx => Sys2Proof.Machine.execPhx s
  | .phy => Sys2Proof.Machine.execPhy s
  | .php => Sys2Proof.Machine.execPhp s
  | .pla => Sys2Proof.Machine.execPla s
  | .plx => Sys2Proof.Machine.execPlx s
  | .ply => Sys2Proof.Machine.execPly s
  | .plp => Sys2Proof.Machine.execPlp s
  | .tsx => Sys2Proof.Machine.execTsx s
  | .txs => Sys2Proof.Machine.execTxs s
  -- Increment and decrement (42_inc_dec.md)
  | .ina => Sys2Proof.Machine.execIna s
  | .inx => Sys2Proof.Machine.execInx s
  | .iny => Sys2Proof.Machine.execIny s
  | .dea => Sys2Proof.Machine.execDea s
  | .dex => Sys2Proof.Machine.execDex s
  | .dey => Sys2Proof.Machine.execDey s
  | .incZpg zp => Sys2Proof.Machine.execIncZpg zp s
  | .incZpx zp => Sys2Proof.Machine.execIncZpx zp s
  | .incAbs a => Sys2Proof.Machine.execIncAbs a s
  | .incAbx a => Sys2Proof.Machine.execIncAbx a s
  | .decZpg zp => Sys2Proof.Machine.execDecZpg zp s
  | .decZpx zp => Sys2Proof.Machine.execDecZpx zp s
  | .decAbs a => Sys2Proof.Machine.execDecAbs a s
  | .decAbx a => Sys2Proof.Machine.execDecAbx a s
  -- Shift (43_shift.md)
  | .aslAcc => Sys2Proof.Machine.execAslAcc s
  | .aslZpg zp => Sys2Proof.Machine.execAslZpg zp s
  | .aslZpx zp => Sys2Proof.Machine.execAslZpx zp s
  | .aslAbs a => Sys2Proof.Machine.execAslAbs a s
  | .aslAbx a => Sys2Proof.Machine.execAslAbx a s
  | .lsrAcc => Sys2Proof.Machine.execLsrAcc s
  | .lsrZpg zp => Sys2Proof.Machine.execLsrZpg zp s
  | .lsrZpx zp => Sys2Proof.Machine.execLsrZpx zp s
  | .lsrAbs a => Sys2Proof.Machine.execLsrAbs a s
  | .lsrAbx a => Sys2Proof.Machine.execLsrAbx a s
  | .rolAcc => Sys2Proof.Machine.execRolAcc s
  | .rolZpg zp => Sys2Proof.Machine.execRolZpg zp s
  | .rolZpx zp => Sys2Proof.Machine.execRolZpx zp s
  | .rolAbs a => Sys2Proof.Machine.execRolAbs a s
  | .rolAbx a => Sys2Proof.Machine.execRolAbx a s
  | .rorAcc => Sys2Proof.Machine.execRorAcc s
  | .rorZpg zp => Sys2Proof.Machine.execRorZpg zp s
  | .rorZpx zp => Sys2Proof.Machine.execRorZpx zp s
  | .rorAbs a => Sys2Proof.Machine.execRorAbs a s
  | .rorAbx a => Sys2Proof.Machine.execRorAbx a s
  -- Logical (44_logical.md)
  | .andImm v => Sys2Proof.Machine.execAndImm v s
  | .andZpg zp => Sys2Proof.Machine.execAndZpg zp s
  | .andZpx zp => Sys2Proof.Machine.execAndZpx zp s
  | .andAbs a => Sys2Proof.Machine.execAndAbs a s
  | .andAbx a => Sys2Proof.Machine.execAndAbx a s
  | .andAby a => Sys2Proof.Machine.execAndAby a s
  | .andIzx zp => Sys2Proof.Machine.execAndIzx zp s
  | .andIzy zp => Sys2Proof.Machine.execAndIzy zp s
  | .andIzp zp => Sys2Proof.Machine.execAndIzp zp s
  | .oraImm v => Sys2Proof.Machine.execOraImm v s
  | .oraZpg zp => Sys2Proof.Machine.execOraZpg zp s
  | .oraZpx zp => Sys2Proof.Machine.execOraZpx zp s
  | .oraAbs a => Sys2Proof.Machine.execOraAbs a s
  | .oraAbx a => Sys2Proof.Machine.execOraAbx a s
  | .oraAby a => Sys2Proof.Machine.execOraAby a s
  | .oraIzx zp => Sys2Proof.Machine.execOraIzx zp s
  | .oraIzy zp => Sys2Proof.Machine.execOraIzy zp s
  | .oraIzp zp => Sys2Proof.Machine.execOraIzp zp s
  | .eorImm v => Sys2Proof.Machine.execEorImm v s
  | .eorZpg zp => Sys2Proof.Machine.execEorZpg zp s
  | .eorZpx zp => Sys2Proof.Machine.execEorZpx zp s
  | .eorAbs a => Sys2Proof.Machine.execEorAbs a s
  | .eorAbx a => Sys2Proof.Machine.execEorAbx a s
  | .eorAby a => Sys2Proof.Machine.execEorAby a s
  | .eorIzx zp => Sys2Proof.Machine.execEorIzx zp s
  | .eorIzy zp => Sys2Proof.Machine.execEorIzy zp s
  | .eorIzp zp => Sys2Proof.Machine.execEorIzp zp s
  | .bitImm v => Sys2Proof.Machine.execBitImm v s
  | .bitZpg zp => Sys2Proof.Machine.execBitZpg zp s
  | .bitZpx zp => Sys2Proof.Machine.execBitZpx zp s
  | .bitAbs a => Sys2Proof.Machine.execBitAbs a s
  | .bitAbx a => Sys2Proof.Machine.execBitAbx a s
  | .cmpImm v => Sys2Proof.Machine.execCmpImm v s
  | .cmpZpg zp => Sys2Proof.Machine.execCmpZpg zp s
  | .cmpZpx zp => Sys2Proof.Machine.execCmpZpx zp s
  | .cmpAbs a => Sys2Proof.Machine.execCmpAbs a s
  | .cmpAbx a => Sys2Proof.Machine.execCmpAbx a s
  | .cmpAby a => Sys2Proof.Machine.execCmpAby a s
  | .cmpIzx zp => Sys2Proof.Machine.execCmpIzx zp s
  | .cmpIzy zp => Sys2Proof.Machine.execCmpIzy zp s
  | .cmpIzp zp => Sys2Proof.Machine.execCmpIzp zp s
  | .cpxImm v => Sys2Proof.Machine.execCpxImm v s
  | .cpxZpg zp => Sys2Proof.Machine.execCpxZpg zp s
  | .cpxAbs a => Sys2Proof.Machine.execCpxAbs a s
  | .cpyImm v => Sys2Proof.Machine.execCpyImm v s
  | .cpyZpg zp => Sys2Proof.Machine.execCpyZpg zp s
  | .cpyAbs a => Sys2Proof.Machine.execCpyAbs a s
  | .trbZpg zp => Sys2Proof.Machine.execTrbZpg zp s
  | .trbAbs a => Sys2Proof.Machine.execTrbAbs a s
  | .tsbZpg zp => Sys2Proof.Machine.execTsbZpg zp s
  | .tsbAbs a => Sys2Proof.Machine.execTsbAbs a s
  -- Math (45_math.md)
  | .adcImm v => Sys2Proof.Machine.execAdcImm v s
  | .adcZpg zp => Sys2Proof.Machine.execAdcZpg zp s
  | .adcZpx zp => Sys2Proof.Machine.execAdcZpx zp s
  | .adcAbs a => Sys2Proof.Machine.execAdcAbs a s
  | .adcAbx a => Sys2Proof.Machine.execAdcAbx a s
  | .adcAby a => Sys2Proof.Machine.execAdcAby a s
  | .adcIzx zp => Sys2Proof.Machine.execAdcIzx zp s
  | .adcIzy zp => Sys2Proof.Machine.execAdcIzy zp s
  | .adcIzp zp => Sys2Proof.Machine.execAdcIzp zp s
  | .sbcImm v => Sys2Proof.Machine.execSbcImm v s
  | .sbcZpg zp => Sys2Proof.Machine.execSbcZpg zp s
  | .sbcZpx zp => Sys2Proof.Machine.execSbcZpx zp s
  | .sbcAbs a => Sys2Proof.Machine.execSbcAbs a s
  | .sbcAbx a => Sys2Proof.Machine.execSbcAbx a s
  | .sbcAby a => Sys2Proof.Machine.execSbcAby a s
  | .sbcIzx zp => Sys2Proof.Machine.execSbcIzx zp s
  | .sbcIzy zp => Sys2Proof.Machine.execSbcIzy zp s
  | .sbcIzp zp => Sys2Proof.Machine.execSbcIzp zp s
  -- Flow control (46_flow.md)
  | .jmpAbs a => Sys2Proof.Machine.execJmpAbs a s
  | .jmpInd p => Sys2Proof.Machine.execJmpInd p s
  | .jmpIax p => Sys2Proof.Machine.execJmpIax p s
  | .jsr a => Sys2Proof.Machine.execJsr a s
  | .rts => Sys2Proof.Machine.execRts s
  | .rti => Sys2Proof.Machine.execRti s
  | .bra d => Sys2Proof.Machine.execBra d s
  | .beq d => Sys2Proof.Machine.execBeq d s
  | .bne d => Sys2Proof.Machine.execBne d s
  | .bcc d => Sys2Proof.Machine.execBcc d s
  | .bcs d => Sys2Proof.Machine.execBcs d s
  | .bvc d => Sys2Proof.Machine.execBvc d s
  | .bvs d => Sys2Proof.Machine.execBvs d s
  | .bmi d => Sys2Proof.Machine.execBmi d s
  | .bpl d => Sys2Proof.Machine.execBpl d s
  -- Processor status (47_status.md)
  | .clc => Sys2Proof.Machine.execClc s
  | .cld => Sys2Proof.Machine.execCld s
  | .cli => Sys2Proof.Machine.execCli s
  | .clv => Sys2Proof.Machine.execClv s
  | .sec => Sys2Proof.Machine.execSec s
  | .sed => Sys2Proof.Machine.execSed s
  | .sei => Sys2Proof.Machine.execSei s
  -- Transfer (48_transfer.md)
  | .tax => Sys2Proof.Machine.execTax s
  | .tay => Sys2Proof.Machine.execTay s
  | .txa => Sys2Proof.Machine.execTxa s
  | .tya => Sys2Proof.Machine.execTya s
  -- Miscellaneous (49_misc.md)
  | .nop => Sys2Proof.Machine.execNop s
  | .brk => Sys2Proof.Machine.execBrk s

end Sys2Proof.Machine
end

