-- ==== Sys2Proof/Machine/Fetch.lean ====
section
/-! DEFINITION. Fetching an instruction from memory (30_encoding.md R60), and placing one where the next step fetches. -/

namespace Sys2Proof.Machine

/-- Fetch and decode: the opcode byte, then as many operand bytes as its format has, from memory as it is now
(30_encoding.md R60, 20_memory.md R53); an opcode byte with no row is refused (30_encoding.md R66). -/
def fetch (st : State) : Result Instr :=
  andThen (readByte st.PC st) fun opcode =>
  match findRow opcode with
  | none => .refused (.undefinedOpcode opcode)
  | some row =>
    match row.format.size with
    | 1 => .next (row.build 0 0)
    | 2 => andThen (readByte (st.PC + 1) st) fun b1 => .next (row.build b1 0)
    | _ =>
      andThen (readByte (st.PC + 1) st) fun b1 =>
      andThen (readByte (st.PC + 2) st) fun b2 =>
      .next (row.build b1 b2)

/-- The state with Env quiet at the next boundary, so that the next step is an instruction (log 21). -/
def State.quieted (st : State) : State := { st with env := [], irqLine := false, nmiPending := false }

/-- The state with a byte in memory that can be fetched: an address the map lets nobody read becomes ROM (log 21). -/
def State.place (a : Addr) (v : Byte) (st : State) : State :=
  match (st.poke a v).kindOf a with
  | .ram | .rom => st.poke a v
  | .absent | .device => { st.poke a v with memMap := ⟨a, a, .rom⟩ :: st.memMap }

/-- The state with the three bytes of a table word at PC and Env quiet. -/
def State.placeWord (nbits w : Nat) (st : State) : State :=
  ((st.quieted.place st.PC (tableByte nbits w 0)).place (st.PC + 1) (tableByte nbits w 1)).place (st.PC + 2) (tableByte nbits w 2)

end Sys2Proof.Machine
end

