-- ==== Sys2Proof/Machine/Interrupts.lean ====
section
/-! DEFINITION. What happens at an instruction boundary: Env's input is taken in, then RESET, NMI, IRQ or an instruction comes
next (60_exceptions.md R232 to R238), and the three events themselves (R234, R235, R237; 70_reset_and_hazards.md R260). -/

namespace Sys2Proof.Machine

/-- Env asserts RESET at this boundary (60_exceptions.md R232 (c)). -/
def resetAsserted (st : State) : Bool :=
  match st.env with
  | [] => false
  | e :: _ => e.reset

/-- Env's input of this boundary is taken in: the IRQ line has the level it drives, a new NMI request sets the latch
(60_exceptions.md R232 (a), (b), R234, R235). -/
def sampleEnv (st : State) : State :=
  match st.env with
  | [] => st
  | e :: later => { st with irqLine := e.irqLine, nmiPending := st.nmiPending || e.nmi, env := later }

/-- An IRQ is requested and I does not mask it (60_exceptions.md R234, R236). -/
def irqEligible (st : State) : Bool := st.irqLine && !st.I

/-- A request is present and unmasked (60_exceptions.md R233). -/
def requestPresent (st : State) : Bool := st.nmiPending || irqEligible st

/-- What comes next at a boundary, with the state it starts from. -/
inductive Boundary where
  | reset (st : State)
  | nmi (st : State)
  | irq (st : State)
  | instruction (st : State)
  deriving DecidableEq, Repr

/-- A request is taken at this boundary: NMI goes before IRQ (60_exceptions.md R238). -/
def takenRequest (st : State) : Boundary := if st.nmiPending then .nmi st else .irq st

/-- RESET first, then a present and unmasked request if the free choice honours it here, else an instruction
(60_exceptions.md R233, R238, 93_implementation_defined.md U8). The free choice is asked, and its index goes on, only where
there is a request. -/
def boundary (st : State) : Boundary :=
  if resetAsserted st then .reset (sampleEnv st)
  else if requestPresent (sampleEnv st) then
    if Config.honours (sampleEnv st).draws then takenRequest (sampleEnv st).nextDraw
    else .instruction (sampleEnv st).nextDraw
  else .instruction (sampleEnv st)

/-- NMI: the latch is cleared and the handler of `$FFFA` entered (60_exceptions.md R235, R237). -/
def nmiEvent (st : State) : Result State :=
  enterHandler st.PC false nmiVector { st with nmiPending := false }

/-- IRQ: the handler of `$FFFE` is entered (60_exceptions.md R234, R237). -/
def irqEvent (st : State) : Result State := enterHandler st.PC false irqVector st

/-- The registers and flags that RESET leaves open take free values (70_reset_and_hazards.md R260, R261, log 10). -/
def State.drawReset (draw : ResetDraw) (st : State) : State :=
  { st with
    A := draw.a, X := draw.x, Y := draw.y, S := draw.s
    N := draw.n, V := draw.v, Z := draw.z, C := draw.c }

/-- RESET of a running processor: nothing is pushed and nothing written to memory (70_reset_and_hazards.md R260,
60_exceptions.md R240). -/
def resetEvent (st : State) : Result State :=
  andThen (read16 resetVector st) fun start =>
  .next { (st.nextDraw.drawReset (Config.resetDraw st.draws)) with
    I := true, D := false, nmiPending := false, PC := start }

end Sys2Proof.Machine
end

