-- ==== Sys2Proof/Machine/Step.lean ====
section
/-! DEFINITION. One step of the machine: an event at the boundary, or one instruction (00_scope.md R5, 30_encoding.md R60,
60_exceptions.md R233). -/

namespace Sys2Proof.Machine

/-- Fetch an instruction and execute it (30_encoding.md R60). -/
def runInstruction (s : State) : Host.Outcome State Fault Refusal := andThen (fetch s) fun i => exec i s

/-- One step: whatever comes next at the boundary is the whole step (log 8). -/
def step (s : State) : Host.Outcome State Fault Refusal :=
  match boundary s with
  | .reset t => resetEvent t
  | .nmi t => nmiEvent t
  | .irq t => irqEvent t
  | .instruction t => runInstruction t

/-- The state with the instruction of a table word where the next step fetches it, and Env quiet (logs 3, 21). -/
def State.withFetchWord (s : State) (nbits w : Nat) : State := s.placeWord nbits w

end Sys2Proof.Machine
end

