-- ==== Sys2Proof/Safety.lean ====
section
/-! DEFINITION. The terms claims use: a state the spec admits right after reset, a run up to a halt condition, and what each
instruction may change: flags, registers, the program counter, bytes of memory (10_state.md R10 to R14, R18, R27;
20_memory.md R48; 70_reset_and_hazards.md R260, R261, R271). -/

namespace Sys2Proof.Machine

/-- Every state the spec admits right after reset (10_state.md R27): PC, I, D and the NMI latch are fixed, all else is any
value. `State.reset` is one of them; a claim about runs from reset quantifies over all of them (70_reset_and_hazards.md R261). -/
def AfterReset (s : State) : Prop :=
  read16 resetVector s = .next s.PC ∧ s.I = true ∧ s.D = false ∧ s.nmiPending = false

/-- At most `n` steps, ending where the claim's HaltCondition holds (70_reset_and_hazards.md R271). -/
def runUntil (halt : State → Bool) (n : Nat) (s : State) : Result State :=
  match n with
  | 0 => .next s
  | k + 1 => if halt s then .next s else andThen (step s) (runUntil halt k)

/-- A usual HaltCondition: PC reaches a stated address (70_reset_and_hazards.md R271). -/
def haltsAt (a : Addr) (s : State) : Bool := s.PC == a

/-- A usual HaltCondition: the next instruction jumps or branches to itself (70_reset_and_hazards.md R271). -/
def haltsInLoop (s : State) : Bool :=
  match fetch s with
  | .next (.jmpAbs a) => a == s.PC
  | .next (.bra d) => branchTarget d s == s.PC
  | _ => false

/-- The flags an instruction writes: the second table of 10_state.md R18. -/
def flagsWritten (i : Instr) : List Flag :=
  match i.mnemonic with
  | .lda | .ldx | .ldy | .pla | .plx | .ply | .tsx | .ina | .inx | .iny | .dea | .dex | .dey | .inc | .dec
  | .and | .ora | .eor | .tax | .tay | .txa | .tya => [.n, .z]
  | .asl | .rol | .ror | .lsr | .cmp | .cpx | .cpy => [.n, .z, .c]
  | .adc | .sbc => [.n, .v, .z, .c]
  | .bit =>
    match i.operand with
    | .imm _ => [.z]
    | _ => [.n, .v, .z]
  | .trb | .tsb => [.z]
  | .clc | .sec => [.c]
  | .cld | .sed => [.d]
  | .cli | .sei => [.i]
  | .clv => [.v]
  | .plp | .rti => [.n, .v, .d, .i, .z, .c]
  | .brk => [.i, .d]
  | .sta | .stx | .sty | .stz | .pha | .phx | .phy | .php | .txs | .jmp | .jsr | .rts
  | .bra | .beq | .bne | .bcc | .bcs | .bvc | .bvs | .bmi | .bpl | .nop => []

/-- The 8-bit registers an instruction writes: the access table after 10_state.md R12, and R13 for S. -/
def registersWritten (i : Instr) : List Reg :=
  match i.mnemonic with
  | .lda | .txa | .tya | .ina | .dea | .and | .ora | .eor | .adc | .sbc => [.a]
  | .asl | .lsr | .rol | .ror =>
    match i.operand with
    | .acc => [.a]
    | _ => []
  | .ldx | .tax | .tsx | .inx | .dex => [.x]
  | .ldy | .tay | .iny | .dey => [.y]
  | .pla => [.a, .s]
  | .plx => [.x, .s]
  | .ply => [.y, .s]
  | .txs | .pha | .phx | .phy | .php | .plp | .jsr | .rts | .rti | .brk => [.s]
  | .sta | .stx | .sty | .stz | .inc | .dec | .bit | .cmp | .cpx | .cpy | .trb | .tsb | .jmp
  | .bra | .beq | .bne | .bcc | .bcs | .bvc | .bvs | .bmi | .bpl
  | .clc | .cld | .cli | .clv | .sec | .sed | .sei | .nop => []

/-- The instructions that assign PC themselves (10_state.md R14 and the paragraph after it). -/
def assignsPC (i : Instr) : Bool :=
  match i.mnemonic with
  | .jmp | .jsr | .rts | .rti | .brk | .bra | .beq | .bne | .bcc | .bcs | .bvc | .bvs | .bmi | .bpl => true
  | .lda | .ldx | .ldy | .sta | .stx | .sty | .stz | .pha | .phx | .phy | .php | .pla | .plx | .ply | .plp | .tsx | .txs
  | .ina | .inx | .iny | .dea | .dex | .dey | .inc | .dec | .asl | .lsr | .rol | .ror | .and | .ora | .eor | .bit
  | .cmp | .cpx | .cpy | .trb | .tsb | .adc | .sbc | .clc | .cld | .cli | .clv | .sec | .sed | .sei
  | .tax | .tay | .txa | .tya | .nop => false

/-- The effective address of an operand in memory, where computing it completes. -/
def operandAddresses (i : Instr) (s : State) : List Addr :=
  match i.operand with
  | .mem m =>
    match effectiveAddress m s with
    | .next ea => [ea]
    | _ => []
  | _ => []

/-- The addresses an instruction stores to (20_memory.md R48): a store or a change in place at its effective address, a
push at the stack address of S at that moment. -/
def storedAddresses (i : Instr) (s : State) : List Addr :=
  match i.mnemonic with
  | .sta | .stx | .sty | .stz | .inc | .dec | .trb | .tsb | .asl | .lsr | .rol | .ror => operandAddresses i s
  | .pha | .phx | .phy | .php => [stackAddr s.S]
  | .jsr => [stackAddr s.S, stackAddr (s.S - 1)]
  | .brk => [stackAddr s.S, stackAddr (s.S - 1), stackAddr (s.S - 2)]
  | .lda | .ldx | .ldy | .pla | .plx | .ply | .plp | .tsx | .txs | .ina | .inx | .iny | .dea | .dex | .dey
  | .and | .ora | .eor | .bit | .cmp | .cpx | .cpy | .adc | .sbc | .jmp | .rts | .rti
  | .bra | .beq | .bne | .bcc | .bcs | .bvc | .bvs | .bmi | .bpl
  | .clc | .cld | .cli | .clv | .sec | .sed | .sei | .tax | .tay | .txa | .tya | .nop => []

/-- Every address is plain memory on this platform (20_memory.md R40, R46). -/
def AllPlain (s : State) : Prop := ∀ a, s.kindOf a = .ram

/-- The 78 opcode bytes that have no row (30_encoding.md R66). -/
def undefinedOpcodes : List Byte := [
  0x02, 0x03, 0x07, 0x0B, 0x0F, 0x13, 0x17, 0x1B, 0x1F, 0x22, 0x23, 0x27, 0x2B,
  0x2F, 0x33, 0x37, 0x3B, 0x3F, 0x42, 0x43, 0x44, 0x47, 0x4B, 0x4F, 0x53, 0x54,
  0x57, 0x5B, 0x5C, 0x5F, 0x62, 0x63, 0x67, 0x6B, 0x6F, 0x73, 0x77, 0x7B, 0x7F,
  0x82, 0x83, 0x87, 0x8B, 0x8F, 0x93, 0x97, 0x9B, 0x9F, 0xA3, 0xA7, 0xAB, 0xAF,
  0xB3, 0xB7, 0xBB, 0xBF, 0xC2, 0xC3, 0xC7, 0xCB, 0xCF, 0xD3, 0xD4, 0xD7, 0xDB,
  0xDC, 0xDF, 0xE2, 0xE3, 0xE7, 0xEB, 0xEF, 0xF3, 0xF4, 0xF7, 0xFB, 0xFC, 0xFF]

end Sys2Proof.Machine
end

