-- ==== Sys2Proof/Certificates/Slice0/Obligations.lean ====
section
/-! DEFINITION. The statements for the provers. Each docstring names the rule of spec/ it formalises, and says so where it
rests on a decision the spec marks as its own (92_eei_decisions.md, log 22) or on a choice of the model (its log entry). -/

open Sys2Proof Sys2Proof.Machine

/-! ## Encoding -/

/-- Words written out byte by byte from the opcode map, at least one for each family, decode to what they stand for
(30_encoding.md R61, R63; 90_conflicts.md C2, C3, C4). -/
def Obligations.WordsOfEachFamilyDecode : Prop :=
  decode [0xA9, 0x80] = .ok (.ldaImm 0x80, []) ∧
  decode [0xB4, 0xF0] = .ok (.ldyZpx 0xF0, []) ∧
  decode [0x8D, 0x00, 0x30] = .ok (.staAbs 0x3000, []) ∧
  decode [0x9E, 0x00, 0x20] = .ok (.stzAbx 0x2000, []) ∧
  decode [0x08] = .ok (.php, []) ∧
  decode [0x28] = .ok (.plp, []) ∧
  decode [0xEE, 0x34, 0x12] = .ok (.incAbs 0x1234, []) ∧
  decode [0xFE, 0x34, 0x12] = .ok (.incAbx 0x1234, []) ∧
  decode [0x6A] = .ok (.rorAcc, []) ∧
  decode [0xD5, 0x10] = .ok (.cmpZpx 0x10, []) ∧
  decode [0x71, 0x20] = .ok (.adcIzy 0x20, []) ∧
  decode [0x7C, 0x00, 0x30] = .ok (.jmpIax 0x3000, []) ∧
  decode [0xD0, 0xFD] = .ok (.bne (-3), []) ∧
  decode [0x78] = .ok (.sei, []) ∧
  decode [0x98] = .ok (.tya, []) ∧
  decode [0x00, 0x02] = .ok (.brk, [0x02])

/-- Every instruction's encoding decodes to it, with every operand at every value, and the bytes after it are left
(30_encoding.md R60, R61, R63). -/
def Obligations.DecodeOfEncode : Prop :=
  ∀ (i : Instr) (rest : List Byte), i.wellFormed = true → decode (encode i ++ rest) = .ok (i, rest)

/-- Whatever decodes is well formed and was read from exactly its own encoding: each instruction has one encoding
(30_encoding.md R61, R63). -/
def Obligations.EncodeOfDecode : Prop :=
  ∀ (bytes rest : List Byte) (i : Instr), decode bytes = .ok (i, rest) →
    i.wellFormed = true ∧ encode i ++ rest = bytes

/-- The bytes that start an instruction are all but the 78 of R66 (a decision of the spec, D13), whatever follows them. -/
def Obligations.DefinedOpcodes : Prop :=
  ∀ (b x y : Byte), (∃ i rest, decode [b, x, y] = .ok (i, rest)) ↔ b ∉ undefinedOpcodes

/-- A run that fetches one of the 78 bytes as an opcode is refused, by the byte's name: not a NOP, not a trap (R66, a decision
of the spec, D13). -/
def Obligations.UndefinedOpcodeRefused : Prop :=
  ∀ (s : State) (b : Byte), readByte s.PC s = .next b → b ∈ undefinedOpcodes →
    runInstruction s = .refused (.undefinedOpcode b)

/-- The whole opcode map (30_encoding.md R63, 90_conflicts.md C2 to C4): the encoding of each of the 178 instructions, with every
operand; and the checks of 95_test_vectors.md section 5: 178 rows, no opcode byte in two rows, and no opcode whose low half is
3, 7, B or F. -/
def Obligations.OpcodeMapChecks : Prop :=
  opcodeRows.length = 178 ∧ (opcodeRows.map (·.opcode)).Nodup ∧
    (∀ r ∈ opcodeRows, r.opcode.toNat % 16 ∉ [3, 7, 11, 15]) ∧
  (∀ (v zp : Byte) (a : Addr),
    encode (.ldaImm v) = [0xA9, v] ∧ encode (.ldaZpg zp) = [0xA5, zp] ∧
    encode (.ldaZpx zp) = [0xB5, zp] ∧ encode (.ldaAbs a) = [0xAD, lo8 a, hi8 a] ∧
    encode (.ldaAbx a) = [0xBD, lo8 a, hi8 a] ∧ encode (.ldaAby a) = [0xB9, lo8 a, hi8 a] ∧
    encode (.ldaIzx zp) = [0xA1, zp] ∧ encode (.ldaIzy zp) = [0xB1, zp] ∧
    encode (.ldaIzp zp) = [0xB2, zp] ∧ encode (.ldxImm v) = [0xA2, v] ∧
    encode (.ldxZpg zp) = [0xA6, zp] ∧ encode (.ldxZpy zp) = [0xB6, zp] ∧
    encode (.ldxAbs a) = [0xAE, lo8 a, hi8 a] ∧ encode (.ldxAby a) = [0xBE, lo8 a, hi8 a] ∧
    encode (.ldyImm v) = [0xA0, v] ∧ encode (.ldyZpg zp) = [0xA4, zp] ∧
    encode (.ldyZpx zp) = [0xB4, zp] ∧ encode (.ldyAbs a) = [0xAC, lo8 a, hi8 a] ∧
    encode (.ldyAbx a) = [0xBC, lo8 a, hi8 a]) ∧
  (∀ (zp : Byte) (a : Addr),
    encode (.staZpg zp) = [0x85, zp] ∧ encode (.staZpx zp) = [0x95, zp] ∧
    encode (.staAbs a) = [0x8D, lo8 a, hi8 a] ∧ encode (.staAbx a) = [0x9D, lo8 a, hi8 a] ∧
    encode (.staAby a) = [0x99, lo8 a, hi8 a] ∧ encode (.staIzx zp) = [0x81, zp] ∧
    encode (.staIzy zp) = [0x91, zp] ∧ encode (.staIzp zp) = [0x92, zp] ∧
    encode (.stxZpg zp) = [0x86, zp] ∧ encode (.stxZpy zp) = [0x96, zp] ∧
    encode (.stxAbs a) = [0x8E, lo8 a, hi8 a] ∧ encode (.styZpg zp) = [0x84, zp] ∧
    encode (.styZpx zp) = [0x94, zp] ∧ encode (.styAbs a) = [0x8C, lo8 a, hi8 a] ∧
    encode (.stzZpg zp) = [0x64, zp] ∧ encode (.stzZpx zp) = [0x74, zp] ∧
    encode (.stzAbs a) = [0x9C, lo8 a, hi8 a] ∧ encode (.stzAbx a) = [0x9E, lo8 a, hi8 a]) ∧
  (encode .pha = [0x48] ∧ encode .phx = [0xDA] ∧
    encode .phy = [0x5A] ∧ encode .php = [0x08] ∧
    encode .pla = [0x68] ∧ encode .plx = [0xFA] ∧
    encode .ply = [0x7A] ∧ encode .plp = [0x28] ∧
    encode .tsx = [0xBA] ∧ encode .txs = [0x9A]) ∧
  (∀ (zp : Byte) (a : Addr),
    encode .ina = [0x1A] ∧ encode .inx = [0xE8] ∧
    encode .iny = [0xC8] ∧ encode .dea = [0x3A] ∧
    encode .dex = [0xCA] ∧ encode .dey = [0x88] ∧
    encode (.incZpg zp) = [0xE6, zp] ∧ encode (.incZpx zp) = [0xF6, zp] ∧
    encode (.incAbs a) = [0xEE, lo8 a, hi8 a] ∧ encode (.incAbx a) = [0xFE, lo8 a, hi8 a] ∧
    encode (.decZpg zp) = [0xC6, zp] ∧ encode (.decZpx zp) = [0xD6, zp] ∧
    encode (.decAbs a) = [0xCE, lo8 a, hi8 a] ∧ encode (.decAbx a) = [0xDE, lo8 a, hi8 a]) ∧
  (∀ (zp : Byte) (a : Addr),
    encode .aslAcc = [0x0A] ∧ encode (.aslZpg zp) = [0x06, zp] ∧
    encode (.aslZpx zp) = [0x16, zp] ∧ encode (.aslAbs a) = [0x0E, lo8 a, hi8 a] ∧
    encode (.aslAbx a) = [0x1E, lo8 a, hi8 a] ∧ encode .lsrAcc = [0x4A] ∧
    encode (.lsrZpg zp) = [0x46, zp] ∧ encode (.lsrZpx zp) = [0x56, zp] ∧
    encode (.lsrAbs a) = [0x4E, lo8 a, hi8 a] ∧ encode (.lsrAbx a) = [0x5E, lo8 a, hi8 a] ∧
    encode .rolAcc = [0x2A] ∧ encode (.rolZpg zp) = [0x26, zp] ∧
    encode (.rolZpx zp) = [0x36, zp] ∧ encode (.rolAbs a) = [0x2E, lo8 a, hi8 a] ∧
    encode (.rolAbx a) = [0x3E, lo8 a, hi8 a] ∧ encode .rorAcc = [0x6A] ∧
    encode (.rorZpg zp) = [0x66, zp] ∧ encode (.rorZpx zp) = [0x76, zp] ∧
    encode (.rorAbs a) = [0x6E, lo8 a, hi8 a] ∧ encode (.rorAbx a) = [0x7E, lo8 a, hi8 a]) ∧
  (∀ (v zp : Byte) (a : Addr),
    encode (.andImm v) = [0x29, v] ∧ encode (.andZpg zp) = [0x25, zp] ∧
    encode (.andZpx zp) = [0x35, zp] ∧ encode (.andAbs a) = [0x2D, lo8 a, hi8 a] ∧
    encode (.andAbx a) = [0x3D, lo8 a, hi8 a] ∧ encode (.andAby a) = [0x39, lo8 a, hi8 a] ∧
    encode (.andIzx zp) = [0x21, zp] ∧ encode (.andIzy zp) = [0x31, zp] ∧
    encode (.andIzp zp) = [0x32, zp] ∧ encode (.oraImm v) = [0x09, v] ∧
    encode (.oraZpg zp) = [0x05, zp] ∧ encode (.oraZpx zp) = [0x15, zp] ∧
    encode (.oraAbs a) = [0x0D, lo8 a, hi8 a] ∧ encode (.oraAbx a) = [0x1D, lo8 a, hi8 a] ∧
    encode (.oraAby a) = [0x19, lo8 a, hi8 a] ∧ encode (.oraIzx zp) = [0x01, zp] ∧
    encode (.oraIzy zp) = [0x11, zp] ∧ encode (.oraIzp zp) = [0x12, zp] ∧
    encode (.eorImm v) = [0x49, v] ∧ encode (.eorZpg zp) = [0x45, zp] ∧
    encode (.eorZpx zp) = [0x55, zp] ∧ encode (.eorAbs a) = [0x4D, lo8 a, hi8 a] ∧
    encode (.eorAbx a) = [0x5D, lo8 a, hi8 a] ∧ encode (.eorAby a) = [0x59, lo8 a, hi8 a] ∧
    encode (.eorIzx zp) = [0x41, zp] ∧ encode (.eorIzy zp) = [0x51, zp] ∧
    encode (.eorIzp zp) = [0x52, zp] ∧ encode (.bitImm v) = [0x89, v] ∧
    encode (.bitZpg zp) = [0x24, zp] ∧ encode (.bitZpx zp) = [0x34, zp] ∧
    encode (.bitAbs a) = [0x2C, lo8 a, hi8 a] ∧ encode (.bitAbx a) = [0x3C, lo8 a, hi8 a]) ∧
  (∀ (v zp : Byte) (a : Addr),
    encode (.cmpImm v) = [0xC9, v] ∧ encode (.cmpZpg zp) = [0xC5, zp] ∧
    encode (.cmpZpx zp) = [0xD5, zp] ∧ encode (.cmpAbs a) = [0xCD, lo8 a, hi8 a] ∧
    encode (.cmpAbx a) = [0xDD, lo8 a, hi8 a] ∧ encode (.cmpAby a) = [0xD9, lo8 a, hi8 a] ∧
    encode (.cmpIzx zp) = [0xC1, zp] ∧ encode (.cmpIzy zp) = [0xD1, zp] ∧
    encode (.cmpIzp zp) = [0xD2, zp] ∧ encode (.cpxImm v) = [0xE0, v] ∧
    encode (.cpxZpg zp) = [0xE4, zp] ∧ encode (.cpxAbs a) = [0xEC, lo8 a, hi8 a] ∧
    encode (.cpyImm v) = [0xC0, v] ∧ encode (.cpyZpg zp) = [0xC4, zp] ∧
    encode (.cpyAbs a) = [0xCC, lo8 a, hi8 a] ∧ encode (.trbZpg zp) = [0x14, zp] ∧
    encode (.trbAbs a) = [0x1C, lo8 a, hi8 a] ∧ encode (.tsbZpg zp) = [0x04, zp] ∧
    encode (.tsbAbs a) = [0x0C, lo8 a, hi8 a]) ∧
  (∀ (v zp : Byte) (a : Addr),
    encode (.adcImm v) = [0x69, v] ∧ encode (.adcZpg zp) = [0x65, zp] ∧
    encode (.adcZpx zp) = [0x75, zp] ∧ encode (.adcAbs a) = [0x6D, lo8 a, hi8 a] ∧
    encode (.adcAbx a) = [0x7D, lo8 a, hi8 a] ∧ encode (.adcAby a) = [0x79, lo8 a, hi8 a] ∧
    encode (.adcIzx zp) = [0x61, zp] ∧ encode (.adcIzy zp) = [0x71, zp] ∧
    encode (.adcIzp zp) = [0x72, zp] ∧ encode (.sbcImm v) = [0xE9, v] ∧
    encode (.sbcZpg zp) = [0xE5, zp] ∧ encode (.sbcZpx zp) = [0xF5, zp] ∧
    encode (.sbcAbs a) = [0xED, lo8 a, hi8 a] ∧ encode (.sbcAbx a) = [0xFD, lo8 a, hi8 a] ∧
    encode (.sbcAby a) = [0xF9, lo8 a, hi8 a] ∧ encode (.sbcIzx zp) = [0xE1, zp] ∧
    encode (.sbcIzy zp) = [0xF1, zp] ∧ encode (.sbcIzp zp) = [0xF2, zp]) ∧
  (∀ (b : Byte) (a p : Addr),
    encode (.jmpAbs a) = [0x4C, lo8 a, hi8 a] ∧ encode (.jmpInd p) = [0x6C, lo8 p, hi8 p] ∧
    encode (.jmpIax p) = [0x7C, lo8 p, hi8 p] ∧ encode (.jsr a) = [0x20, lo8 a, hi8 a] ∧
    encode .rts = [0x60] ∧ encode .rti = [0x40] ∧
    encode (.bra b.toInt) = [0x80, b] ∧ encode (.beq b.toInt) = [0xF0, b] ∧
    encode (.bne b.toInt) = [0xD0, b] ∧ encode (.bcc b.toInt) = [0x90, b] ∧
    encode (.bcs b.toInt) = [0xB0, b] ∧ encode (.bvc b.toInt) = [0x50, b] ∧
    encode (.bvs b.toInt) = [0x70, b] ∧ encode (.bmi b.toInt) = [0x30, b] ∧
    encode (.bpl b.toInt) = [0x10, b]) ∧
  (encode .clc = [0x18] ∧ encode .cld = [0xD8] ∧
    encode .cli = [0x58] ∧ encode .clv = [0xB8] ∧
    encode .sec = [0x38] ∧ encode .sed = [0xF8] ∧
    encode .sei = [0x78]) ∧
  (encode .tax = [0xAA] ∧ encode .tay = [0xA8] ∧
    encode .txa = [0x8A] ∧ encode .tya = [0x98] ∧
    encode .nop = [0xEA] ∧ encode .brk = [0x00])

/-! ## The step -/

/-- Where an instruction comes next at the boundary and the bytes at PC decode to `i`, the step is `exec i`, from the state
the boundary leaves; `exec` itself moves PC (R60). An instruction comes next wherever Env asserts no RESET and no request
is present and unmasked (R233, a decision of the spec, D14; the boundary's input is the next entry of Env's list, log 6). -/
def Obligations.StepRunsDecodedInstruction : Prop :=
  (∀ (s t : State) (i : Instr) (bytes rest : List Byte),
    boundary s = .instruction t → decode bytes = .ok (i, rest) →
    (∀ k, k < i.size → readByte (t.PC + BitVec.ofNat 16 k) t = .next (bytes.getD k 0)) →
    step s = exec i t) ∧
  (∀ s : State, resetAsserted s = false → requestPresent (sampleEnv s) = false →
    boundary s = .instruction (sampleEnv s))

/-! ## Reset and invariants -/

/-- What the spec fixes of the state after reset (10_state.md R27, a decision of the spec, D16): PC is the pointer of RESET,
I is 1, D is 0, no NMI is pending. -/
def Obligations.ResetStateAsTabulated : Prop :=
  AfterReset State.reset

/-- The memory of `State.reset` has the canonical form (log 1). -/
def Obligations.ResetMemoryCanonical : Prop :=
  State.reset.mem.wf = true

/-- Every step keeps memory in its canonical form, from every state that has it: equal memories stay equal lists. -/
def Obligations.StepKeepsMemoryCanonical : Prop :=
  ∀ s t : State, s.mem.wf = true → step s = .next t → t.mem.wf = true

/-- No step changes the platform's memory map (20_memory.md R46), and a step takes in at most the next of Env's inputs
(60_exceptions.md R232): the map and Env are no state of the processor's (decisions of the spec, D14, D19; the map as a list is
log 11, Env's is log 6). -/
def Obligations.StepKeepsPlatform : Prop :=
  ∀ s t : State, step s = .next t → t.memMap = s.memMap ∧ t.env = s.env.tail

/-- No step changes a byte that is not plain memory (20_memory.md R46, a decision of the spec, D19;
93_implementation_defined.md U10). -/
def Obligations.StepKeepsUnwritableBytes : Prop :=
  ∀ (s t : State) (a : Addr), step s = .next t → s.kindOf a ≠ .ram → t.peek a = s.peek a

/-- A write to plain memory is read back, and leaves every other address as it was (20_memory.md R40, a decision of the
spec, D18). -/
def Obligations.ReadAfterWrite : Prop :=
  ∀ (s : State) (a b : Addr) (v : Byte), s.kindOf a = .ram →
    ∃ t, writeByte a v s = .next t ∧ readByte a t = .next v ∧ (b ≠ a → readByte b t = readByte b s)

/-- Where an access has no meaning it stops by name: nothing behind the address, a write to ROM, a device
(20_memory.md R46, a decision of the spec, D19; which of stuck and refused is the model's choice, log 13). That a ROM address
reads as the byte memory holds there is the model's deduction, log 12. -/
def Obligations.MeaninglessAccessStops : Prop :=
  ∀ (s : State) (a : Addr) (v : Byte),
    (s.kindOf a = .absent → readByte a s = .fault (.absentAddress a) ∧ writeByte a v s = .fault (.absentAddress a)) ∧
    (s.kindOf a = .rom → readByte a s = .next (s.peek a) ∧ writeByte a v s = .fault (.romWrite a)) ∧
    (s.kindOf a = .device → readByte a s = .refused (.deviceAccess a) ∧ writeByte a v s = .refused (.deviceAccess a))

/-- On a platform where every address is plain memory every instruction completes, save a JSR that overwrites its own
operand bytes: nothing but BRK traps, and BRK's trap is a next state (60_exceptions.md R231, 46_flow.md R182). -/
def Obligations.EveryInstructionCompletesOnPlainMemory : Prop :=
  ∀ (i : Instr) (s : State), AllPlain s → (i.mnemonic = .jsr → jsrOverwritesOperand s = false) →
    ∃ t, exec i s = .next t

/-! ## The stack and the events -/

/-- A push stores at the address S denotes and moves S down by one, inside page 1; the pull after it returns the byte and
restores S (10_state.md R13, R15, R16; decisions of the spec, D2). -/
def Obligations.PullUndoesPush : Prop :=
  ∀ (s : State) (v : Byte), s.kindOf (stackAddr s.S) = .ram →
    ∃ t, push v s = .next t ∧ t.S = s.S - 1 ∧ t.peek (stackAddr s.S) = v ∧
      (∀ a, a ≠ stackAddr s.S → t.peek a = s.peek a) ∧
      pull t = .next (v, { t with S := s.S }) ∧
      (stackAddr s.S).toNat = 0x100 + s.S.toNat

/-- RESET goes before everything: it sets I, clears D and the NMI latch, takes PC from its pointer and writes nothing to
memory (70_reset_and_hazards.md R260, 60_exceptions.md R238; decisions of the spec, D14, D16). A, X, Y, S, N, V, Z, C are free
values (log 10) and the statement says nothing of them. The model's choices in it: Env's inputs are a list that the boundary
takes the next entry from (log 6), the event is one whole step (log 8), and RESET is taken only at a boundary, so that memory is
that of the last whole instruction (log 9). -/
def Obligations.ResetEventTaken : Prop :=
  ∀ (s : State) (e : EnvInput) (later : List EnvInput) (start : Addr),
    s.env = e :: later → e.reset = true → read16 0xFFFC s = .next start →
    ∃ t, step s = .next t ∧ t.I = true ∧ t.D = false ∧ t.nmiPending = false ∧ t.PC = start ∧
      t.mem = s.mem ∧ t.memMap = s.memMap ∧ t.irqLine = e.irqLine ∧ t.env = later

/-- What Env does at a boundary: it drives the IRQ line and may set the NMI latch, and nothing else of the processor
changes; with no input left it changes nothing (60_exceptions.md R232, a decision of the spec, D14; the list is log 6). -/
def Obligations.EnvInputTakenIn : Prop :=
  (∀ s : State, s.env = [] → sampleEnv s = s) ∧
  (∀ (s : State) (e : EnvInput) (later : List EnvInput), s.env = e :: later →
    sampleEnv s = { s with irqLine := e.irqLine, nmiPending := (s.nmiPending || e.nmi), env := later })

/-- With no RESET: a pending NMI goes before an IRQ and I does not mask it; an IRQ is taken only with I = 0; a request that
is present and unmasked is taken or one more instruction runs, as the free choice says; else the instruction runs
(60_exceptions.md R233 to R236, R238; decisions of the spec, D14). The model's choices in it: Env's list (log 6), the free
choice asked once for the request of highest priority (log 7), the taken event is the whole step (log 8), and the index of the
free values moves on by one where the choice is asked (log 5). -/
def Obligations.RequestsByPriorityAndMask : Prop :=
  ∀ s t : State, resetAsserted s = false → sampleEnv s = t →
    (t.nmiPending = true →
      step s = if Config.honours t.draws then nmiEvent t.nextDraw else runInstruction t.nextDraw) ∧
    (t.nmiPending = false → t.irqLine = true → t.I = false →
      step s = if Config.honours t.draws then irqEvent t.nextDraw else runInstruction t.nextDraw) ∧
    (t.nmiPending = false → (t.irqLine = false ∨ t.I = true) → step s = runInstruction t)

/-- The entry of an interrupt: PC, high byte first, then the flags byte with B = 0 and bit 5 = 1 go on the stack; I is set,
D cleared, control goes to the handler; A, X, Y, N, V, Z, C keep their values; NMI clears its latch (60_exceptions.md R235,
R237, R241; decisions of the spec, D3, D15). -/
def Obligations.InterruptEntersHandler : Prop :=
  ∀ s : State, s.kindOf (stackAddr s.S) = .ram → s.kindOf (stackAddr (s.S - 1)) = .ram →
    s.kindOf (stackAddr (s.S - 2)) = .ram →
    (∀ handler, read16 0xFFFE s = .next handler →
      irqEvent s = .next { s with
        mem := ((s.mem.write (stackAddr s.S).toNat (hi8 s.PC)).write (stackAddr (s.S - 1)).toNat (lo8 s.PC)).write
          (stackAddr (s.S - 2)).toNat (packP false s)
        S := s.S - 3, I := true, D := false, PC := handler }) ∧
    (∀ handler, read16 0xFFFA s = .next handler →
      nmiEvent s = .next { s with
        mem := ((s.mem.write (stackAddr s.S).toNat (hi8 s.PC)).write (stackAddr (s.S - 1)).toNat (lo8 s.PC)).write
          (stackAddr (s.S - 2)).toNat (packP false s)
        S := s.S - 3, I := true, D := false, nmiPending := false, PC := handler })

/-- BRK pushes the address two past its opcode, high byte first, and the flags with B = 1, sets I, clears D and goes to the
handler of `$FFFE`, whatever I holds (49_misc.md R221, a decision of the spec, D10). -/
def Obligations.BrkEntersHandler : Prop :=
  ∀ (s : State) (handler : Addr), s.kindOf (stackAddr s.S) = .ram → s.kindOf (stackAddr (s.S - 1)) = .ram →
    s.kindOf (stackAddr (s.S - 2)) = .ram → read16 0xFFFE s = .next handler →
    exec .brk s = .next { s with
      mem := ((s.mem.write (stackAddr s.S).toNat (hi8 (s.PC + 2))).write (stackAddr (s.S - 1)).toNat
        (lo8 (s.PC + 2))).write (stackAddr (s.S - 2)).toNat (packP true s)
      S := s.S - 3, I := true, D := false, PC := handler }

/-- The flags byte that is pushed has the six flags at their places, bit 5 set and B as given, and unpacking it restores
the six flags whatever B is (10_state.md R20 to R22; B and bit 5 are a decision of the spec, D1). -/
def Obligations.FlagsByteRoundTrip : Prop :=
  ∀ (s t : State) (b : Bool),
    (packP b s)[5] = true ∧ (packP b s)[4] = b ∧
    t.unpackP (packP b s) = { t with N := s.N, V := s.V, D := s.D, I := s.I, Z := s.Z, C := s.C }

/-- RTI pulls the flags byte, then the address, low byte first, and adds nothing to it (46_flow.md R184, a decision of the
spec, D11). -/
def Obligations.RtiPullsFlagsAndPC : Prop :=
  ∀ (s : State) (p lo hi : Byte), readByte (stackAddr (s.S + 1)) s = .next p →
    readByte (stackAddr (s.S + 2)) s = .next lo → readByte (stackAddr (s.S + 3)) s = .next hi →
    exec .rti s = .next { s with
      N := p[7], V := p[6], D := p[3], I := p[2], Z := p[1], C := p[0]
      S := s.S + 3, PC := word16 hi lo }

/-- RTI undoes an entry: all that BRK, IRQ or NMI changed is restored but the three bytes of dead stack, and control goes
to the pushed address (60_exceptions.md R239, a decision of the spec, D11). -/
def Obligations.RtiUndoesEntry : Prop :=
  ∀ (s t : State) (ret vector : Addr) (b : Bool), enterHandler ret b vector s = .next t →
    exec .rti t = .next { s with mem := t.mem, PC := ret }

/-! ## Loads, stores, stack, transfers -/

/-- LDA, LDX and LDY in every form: the register takes the operand, N and Z follow it, nothing else changes but PC
(40_load_store.md R100, R101, R102; 10_state.md R19). -/
def Obligations.LoadsTakeTheOperand : Prop :=
  (∀ (v zp : Byte) (a : Addr),
    encode (.ldaImm v) = [0xA9, v] ∧ encode (.ldaZpg zp) = [0xA5, zp] ∧
    encode (.ldaZpx zp) = [0xB5, zp] ∧ encode (.ldaAbs a) = [0xAD, lo8 a, hi8 a] ∧
    encode (.ldaAbx a) = [0xBD, lo8 a, hi8 a] ∧ encode (.ldaAby a) = [0xB9, lo8 a, hi8 a] ∧
    encode (.ldaIzx zp) = [0xA1, zp] ∧ encode (.ldaIzy zp) = [0xB1, zp] ∧
    encode (.ldaIzp zp) = [0xB2, zp] ∧ encode (.ldxImm v) = [0xA2, v] ∧
    encode (.ldxZpg zp) = [0xA6, zp] ∧ encode (.ldxZpy zp) = [0xB6, zp] ∧
    encode (.ldxAbs a) = [0xAE, lo8 a, hi8 a] ∧ encode (.ldxAby a) = [0xBE, lo8 a, hi8 a] ∧
    encode (.ldyImm v) = [0xA0, v] ∧ encode (.ldyZpg zp) = [0xA4, zp] ∧
    encode (.ldyZpx zp) = [0xB4, zp] ∧ encode (.ldyAbs a) = [0xAC, lo8 a, hi8 a] ∧
    encode (.ldyAbx a) = [0xBC, lo8 a, hi8 a]) ∧
  ∀ (i : Instr) (src : Source) (s : State) (m : Byte), i.operand.source? = some src → readSource src s = .next m →
    (i.mnemonic = .lda → exec i s = .next { s with
      A := m, N := m[7], Z := m == 0, PC := s.PC + BitVec.ofNat 16 i.size }) ∧
    (i.mnemonic = .ldx → exec i s = .next { s with
      X := m, N := m[7], Z := m == 0, PC := s.PC + BitVec.ofNat 16 i.size }) ∧
    (i.mnemonic = .ldy → exec i s = .next { s with
      Y := m, N := m[7], Z := m == 0, PC := s.PC + BitVec.ofNat 16 i.size })

/-- STA, STX, STY and STZ in every form: one byte is written at the effective address, which is not read first; no flag and
no register changes but PC (40_load_store.md R103 to R106). -/
def Obligations.StoresWriteOneByte : Prop :=
  (∀ (zp : Byte) (a : Addr),
    encode (.staZpg zp) = [0x85, zp] ∧ encode (.staZpx zp) = [0x95, zp] ∧
    encode (.staAbs a) = [0x8D, lo8 a, hi8 a] ∧ encode (.staAbx a) = [0x9D, lo8 a, hi8 a] ∧
    encode (.staAby a) = [0x99, lo8 a, hi8 a] ∧ encode (.staIzx zp) = [0x81, zp] ∧
    encode (.staIzy zp) = [0x91, zp] ∧ encode (.staIzp zp) = [0x92, zp] ∧
    encode (.stxZpg zp) = [0x86, zp] ∧ encode (.stxZpy zp) = [0x96, zp] ∧
    encode (.stxAbs a) = [0x8E, lo8 a, hi8 a] ∧ encode (.styZpg zp) = [0x84, zp] ∧
    encode (.styZpx zp) = [0x94, zp] ∧ encode (.styAbs a) = [0x8C, lo8 a, hi8 a] ∧
    encode (.stzZpg zp) = [0x64, zp] ∧ encode (.stzZpx zp) = [0x74, zp] ∧
    encode (.stzAbs a) = [0x9C, lo8 a, hi8 a] ∧ encode (.stzAbx a) = [0x9E, lo8 a, hi8 a]) ∧
  ∀ (i : Instr) (m : MemMode) (s : State) (ea : Addr), i.operand = .mem m → effectiveAddress m s = .next ea →
    s.kindOf ea = .ram →
    (i.mnemonic = .sta → exec i s = .next { s with
      mem := s.mem.write ea.toNat s.A, PC := s.PC + BitVec.ofNat 16 i.size }) ∧
    (i.mnemonic = .stx → exec i s = .next { s with
      mem := s.mem.write ea.toNat s.X, PC := s.PC + BitVec.ofNat 16 i.size }) ∧
    (i.mnemonic = .sty → exec i s = .next { s with
      mem := s.mem.write ea.toNat s.Y, PC := s.PC + BitVec.ofNat 16 i.size }) ∧
    (i.mnemonic = .stz → exec i s = .next { s with
      mem := s.mem.write ea.toNat 0, PC := s.PC + BitVec.ofNat 16 i.size })

/-- PHA, PHX, PHY and PHP: the byte is stored at the stack address and S moves down; PHP's byte has B = 1 and bit 5 = 1; no
flag changes (41_stack.md R110 to R113 over 10_state.md R15 and R20; decisions of the spec, D1, D2, D12). -/
def Obligations.PushesStoreAndLowerS : Prop :=
  ∀ s : State, s.kindOf (stackAddr s.S) = .ram →
    exec .pha s = .next { s with
      mem := s.mem.write (stackAddr s.S).toNat s.A, S := s.S - 1, PC := s.PC + 1 } ∧
    exec .phx s = .next { s with
      mem := s.mem.write (stackAddr s.S).toNat s.X, S := s.S - 1, PC := s.PC + 1 } ∧
    exec .phy s = .next { s with
      mem := s.mem.write (stackAddr s.S).toNat s.Y, S := s.S - 1, PC := s.PC + 1 } ∧
    exec .php s = .next { s with
      mem := s.mem.write (stackAddr s.S).toNat (packP true s), S := s.S - 1, PC := s.PC + 1 }

/-- PLA, PLX, PLY and PLP: S moves up and the byte there goes to the register, with N and Z after it, or, for PLP, to all six
flags (41_stack.md R114 to R117 over 10_state.md R16 and R22; decisions of the spec, D2, D12; 90_conflicts.md C5). -/
def Obligations.PullsRaiseSAndRead : Prop :=
  ∀ (s : State) (m : Byte), readByte (stackAddr (s.S + 1)) s = .next m →
    exec .pla s = .next { s with
      A := m, S := s.S + 1, N := m[7], Z := m == 0, PC := s.PC + 1 } ∧
    exec .plx s = .next { s with
      X := m, S := s.S + 1, N := m[7], Z := m == 0, PC := s.PC + 1 } ∧
    exec .ply s = .next { s with
      Y := m, S := s.S + 1, N := m[7], Z := m == 0, PC := s.PC + 1 } ∧
    exec .plp s = .next { s with
      N := m[7], V := m[6], D := m[3], I := m[2], Z := m[1], C := m[0]
      S := s.S + 1, PC := s.PC + 1 }

/-- TAX, TAY, TXA, TYA and TSX copy a register and set N and Z from it; TXS copies X to S and writes no flag
(48_transfer.md R210 to R213; 41_stack.md R118, R119). -/
def Obligations.TransfersCopyARegister : Prop :=
  encode .tax = [0xAA] ∧ encode .tay = [0xA8] ∧ encode .txa = [0x8A] ∧ encode .tya = [0x98] ∧
  encode .tsx = [0xBA] ∧ encode .txs = [0x9A] ∧
  ∀ s : State,
    exec .tax s = .next { s with X := s.A, N := s.A[7], Z := s.A == 0, PC := s.PC + 1 } ∧
    exec .tay s = .next { s with Y := s.A, N := s.A[7], Z := s.A == 0, PC := s.PC + 1 } ∧
    exec .txa s = .next { s with A := s.X, N := s.X[7], Z := s.X == 0, PC := s.PC + 1 } ∧
    exec .tya s = .next { s with A := s.Y, N := s.Y[7], Z := s.Y == 0, PC := s.PC + 1 } ∧
    exec .tsx s = .next { s with X := s.S, N := s.S[7], Z := s.S == 0, PC := s.PC + 1 } ∧
    exec .txs s = .next { s with S := s.X, PC := s.PC + 1 }

/-! ## Arithmetic and logic -/

/-- INA, INX, INY, DEA, DEX and DEY step a register modulo 256 and set N and Z; C, V and D play no part
(42_inc_dec.md R130 to R135). -/
def Obligations.RegistersStepByOne : Prop :=
  encode .ina = [0x1A] ∧ encode .inx = [0xE8] ∧ encode .iny = [0xC8] ∧ encode .dea = [0x3A] ∧
  encode .dex = [0xCA] ∧ encode .dey = [0x88] ∧
  ∀ s : State,
    exec .ina s = .next { s with A := s.A + 1, N := (s.A + 1)[7], Z := s.A + 1 == 0, PC := s.PC + 1 } ∧
    exec .inx s = .next { s with X := s.X + 1, N := (s.X + 1)[7], Z := s.X + 1 == 0, PC := s.PC + 1 } ∧
    exec .iny s = .next { s with Y := s.Y + 1, N := (s.Y + 1)[7], Z := s.Y + 1 == 0, PC := s.PC + 1 } ∧
    exec .dea s = .next { s with A := s.A - 1, N := (s.A - 1)[7], Z := s.A - 1 == 0, PC := s.PC + 1 } ∧
    exec .dex s = .next { s with X := s.X - 1, N := (s.X - 1)[7], Z := s.X - 1 == 0, PC := s.PC + 1 } ∧
    exec .dey s = .next { s with Y := s.Y - 1, N := (s.Y - 1)[7], Z := s.Y - 1 == 0, PC := s.PC + 1 }

/-- INC and DEC in every form: the byte at the effective address steps by one modulo 256, N and Z follow the new byte; C, V,
A, X and Y are unchanged (42_inc_dec.md R136, R137; 20_memory.md R48). -/
def Obligations.MemoryStepsByOne : Prop :=
  (∀ (zp : Byte) (a : Addr),
    encode (.incZpg zp) = [0xE6, zp] ∧ encode (.incZpx zp) = [0xF6, zp] ∧
    encode (.incAbs a) = [0xEE, lo8 a, hi8 a] ∧ encode (.incAbx a) = [0xFE, lo8 a, hi8 a] ∧
    encode (.decZpg zp) = [0xC6, zp] ∧ encode (.decZpx zp) = [0xD6, zp] ∧
    encode (.decAbs a) = [0xCE, lo8 a, hi8 a] ∧ encode (.decAbx a) = [0xDE, lo8 a, hi8 a]) ∧
  ∀ (i : Instr) (m : MemMode) (s : State) (ea : Addr), i.operand = .mem m → effectiveAddress m s = .next ea →
    s.kindOf ea = .ram →
    (i.mnemonic = .inc → exec i s = .next { s with
      mem := s.mem.write ea.toNat (s.peek ea + 1), N := (s.peek ea + 1)[7], Z := s.peek ea + 1 == 0
      PC := s.PC + BitVec.ofNat 16 i.size }) ∧
    (i.mnemonic = .dec → exec i s = .next { s with
      mem := s.mem.write ea.toNat (s.peek ea - 1), N := (s.peek ea - 1)[7], Z := s.peek ea - 1 == 0
      PC := s.PC + BitVec.ofNat 16 i.size })

/-- The four shifts and rotates, of A and of a byte of memory in every form: ASL doubles modulo 256, LSR halves and clears N,
ROL and ROR take the old carry in at the other end; C is the bit shifted out, Z says the result is 0; nothing else changes but
PC (43_shift.md R140 to R143; 20_memory.md R48). -/
def Obligations.ShiftsMoveOneBit : Prop :=
  (∀ (zp : Byte) (a : Addr),
    encode .aslAcc = [0x0A] ∧ encode (.aslZpg zp) = [0x06, zp] ∧
    encode (.aslZpx zp) = [0x16, zp] ∧ encode (.aslAbs a) = [0x0E, lo8 a, hi8 a] ∧
    encode (.aslAbx a) = [0x1E, lo8 a, hi8 a] ∧ encode .lsrAcc = [0x4A] ∧
    encode (.lsrZpg zp) = [0x46, zp] ∧ encode (.lsrZpx zp) = [0x56, zp] ∧
    encode (.lsrAbs a) = [0x4E, lo8 a, hi8 a] ∧ encode (.lsrAbx a) = [0x5E, lo8 a, hi8 a] ∧
    encode .rolAcc = [0x2A] ∧ encode (.rolZpg zp) = [0x26, zp] ∧
    encode (.rolZpx zp) = [0x36, zp] ∧ encode (.rolAbs a) = [0x2E, lo8 a, hi8 a] ∧
    encode (.rolAbx a) = [0x3E, lo8 a, hi8 a] ∧ encode .rorAcc = [0x6A] ∧
    encode (.rorZpg zp) = [0x66, zp] ∧ encode (.rorZpx zp) = [0x76, zp] ∧
    encode (.rorAbs a) = [0x6E, lo8 a, hi8 a] ∧ encode (.rorAbx a) = [0x7E, lo8 a, hi8 a]) ∧
  (∀ s : State,
    exec .aslAcc s = .next { s with
      A := BitVec.ofNat 8 (s.A.toNat * 2 % 256), C := s.A[7], N := s.A[6]
      Z := BitVec.ofNat 8 (s.A.toNat * 2 % 256) == 0, PC := s.PC + 1 } ∧
    exec .lsrAcc s = .next { s with
      A := BitVec.ofNat 8 (s.A.toNat / 2), C := s.A[0], N := false
      Z := BitVec.ofNat 8 (s.A.toNat / 2) == 0, PC := s.PC + 1 } ∧
    exec .rolAcc s = .next { s with
      A := BitVec.ofNat 8 (s.A.toNat * 2 % 256 + bit s.C), C := s.A[7], N := s.A[6]
      Z := BitVec.ofNat 8 (s.A.toNat * 2 % 256 + bit s.C) == 0, PC := s.PC + 1 } ∧
    exec .rorAcc s = .next { s with
      A := BitVec.ofNat 8 (s.A.toNat / 2 + 128 * bit s.C), C := s.A[0], N := s.C
      Z := BitVec.ofNat 8 (s.A.toNat / 2 + 128 * bit s.C) == 0, PC := s.PC + 1 }) ∧
  (∀ (i : Instr) (m : MemMode) (s : State) (ea : Addr), i.operand = .mem m → effectiveAddress m s = .next ea →
    s.kindOf ea = .ram →
    (i.mnemonic = .asl → exec i s = .next { s with
      mem := s.mem.write ea.toNat (BitVec.ofNat 8 ((s.peek ea).toNat * 2 % 256))
      C := (s.peek ea)[7], N := (s.peek ea)[6]
      Z := BitVec.ofNat 8 ((s.peek ea).toNat * 2 % 256) == 0, PC := s.PC + BitVec.ofNat 16 i.size }) ∧
    (i.mnemonic = .lsr → exec i s = .next { s with
      mem := s.mem.write ea.toNat (BitVec.ofNat 8 ((s.peek ea).toNat / 2))
      C := (s.peek ea)[0], N := false
      Z := BitVec.ofNat 8 ((s.peek ea).toNat / 2) == 0, PC := s.PC + BitVec.ofNat 16 i.size }) ∧
    (i.mnemonic = .rol → exec i s = .next { s with
      mem := s.mem.write ea.toNat (BitVec.ofNat 8 ((s.peek ea).toNat * 2 % 256 + bit s.C))
      C := (s.peek ea)[7], N := (s.peek ea)[6]
      Z := BitVec.ofNat 8 ((s.peek ea).toNat * 2 % 256 + bit s.C) == 0, PC := s.PC + BitVec.ofNat 16 i.size }) ∧
    (i.mnemonic = .ror → exec i s = .next { s with
      mem := s.mem.write ea.toNat (BitVec.ofNat 8 ((s.peek ea).toNat / 2 + 128 * bit s.C))
      C := (s.peek ea)[0], N := s.C
      Z := BitVec.ofNat 8 ((s.peek ea).toNat / 2 + 128 * bit s.C) == 0, PC := s.PC + BitVec.ofNat 16 i.size }))

/-- AND, ORA and EOR in every form: A takes the bitwise result, N and Z follow it, nothing else changes but PC
(44_logical.md R150 to R152). -/
def Obligations.BitwiseLogicIntoA : Prop :=
  (∀ (v zp : Byte) (a : Addr),
    encode (.andImm v) = [0x29, v] ∧ encode (.andZpg zp) = [0x25, zp] ∧
    encode (.andZpx zp) = [0x35, zp] ∧ encode (.andAbs a) = [0x2D, lo8 a, hi8 a] ∧
    encode (.andAbx a) = [0x3D, lo8 a, hi8 a] ∧ encode (.andAby a) = [0x39, lo8 a, hi8 a] ∧
    encode (.andIzx zp) = [0x21, zp] ∧ encode (.andIzy zp) = [0x31, zp] ∧
    encode (.andIzp zp) = [0x32, zp] ∧ encode (.oraImm v) = [0x09, v] ∧
    encode (.oraZpg zp) = [0x05, zp] ∧ encode (.oraZpx zp) = [0x15, zp] ∧
    encode (.oraAbs a) = [0x0D, lo8 a, hi8 a] ∧ encode (.oraAbx a) = [0x1D, lo8 a, hi8 a] ∧
    encode (.oraAby a) = [0x19, lo8 a, hi8 a] ∧ encode (.oraIzx zp) = [0x01, zp] ∧
    encode (.oraIzy zp) = [0x11, zp] ∧ encode (.oraIzp zp) = [0x12, zp] ∧
    encode (.eorImm v) = [0x49, v] ∧ encode (.eorZpg zp) = [0x45, zp] ∧
    encode (.eorZpx zp) = [0x55, zp] ∧ encode (.eorAbs a) = [0x4D, lo8 a, hi8 a] ∧
    encode (.eorAbx a) = [0x5D, lo8 a, hi8 a] ∧ encode (.eorAby a) = [0x59, lo8 a, hi8 a] ∧
    encode (.eorIzx zp) = [0x41, zp] ∧ encode (.eorIzy zp) = [0x51, zp] ∧
    encode (.eorIzp zp) = [0x52, zp]) ∧
  ∀ (i : Instr) (src : Source) (s : State) (m : Byte), i.operand.source? = some src → readSource src s = .next m →
    (i.mnemonic = .and → exec i s = .next { s with
      A := s.A &&& m, N := (s.A &&& m)[7], Z := s.A &&& m == 0, PC := s.PC + BitVec.ofNat 16 i.size }) ∧
    (i.mnemonic = .ora → exec i s = .next { s with
      A := s.A ||| m, N := (s.A ||| m)[7], Z := s.A ||| m == 0, PC := s.PC + BitVec.ofNat 16 i.size }) ∧
    (i.mnemonic = .eor → exec i s = .next { s with
      A := s.A ^^^ m, N := (s.A ^^^ m)[7], Z := s.A ^^^ m == 0, PC := s.PC + BitVec.ofNat 16 i.size })

/-- BIT: Z from `A & M`; in the memory forms N and V are bits 7 and 6 of the byte itself; in the immediate form they are
untouched; A is not changed (44_logical.md R153). -/
def Obligations.BitTestsAgainstA : Prop :=
  (∀ (v zp : Byte) (a : Addr),
    encode (.bitImm v) = [0x89, v] ∧ encode (.bitZpg zp) = [0x24, zp] ∧
    encode (.bitZpx zp) = [0x34, zp] ∧ encode (.bitAbs a) = [0x2C, lo8 a, hi8 a] ∧
    encode (.bitAbx a) = [0x3C, lo8 a, hi8 a]) ∧
  (∀ (v : Byte) (s : State), exec (.bitImm v) s = .next { s with Z := s.A &&& v == 0, PC := s.PC + 2 }) ∧
  (∀ (i : Instr) (m : MemMode) (s : State) (v : Byte), i.mnemonic = .bit → i.operand = .mem m →
    readSource (.mem m) s = .next v →
    exec i s = .next { s with
      Z := s.A &&& v == 0, N := v[7], V := v[6], PC := s.PC + BitVec.ofNat 16 i.size })

/-- CMP, CPX and CPY in every form: an unsigned compare; C says the register is not less, Z that it is equal, N is bit 7 of
the difference; no register and no V changes, C and D are not read (44_logical.md R154 to R156, decisions of the spec, D6). -/
def Obligations.ComparesAreUnsigned : Prop :=
  ∀ (i : Instr) (src : Source) (s : State) (m : Byte), i.operand.source? = some src → readSource src s = .next m →
    (i.mnemonic = .cmp → exec i s = .next { s with
      C := decide (m.toNat ≤ s.A.toNat), Z := decide (s.A = m), N := (s.A - m)[7]
      PC := s.PC + BitVec.ofNat 16 i.size }) ∧
    (i.mnemonic = .cpx → exec i s = .next { s with
      C := decide (m.toNat ≤ s.X.toNat), Z := decide (s.X = m), N := (s.X - m)[7]
      PC := s.PC + BitVec.ofNat 16 i.size }) ∧
    (i.mnemonic = .cpy → exec i s = .next { s with
      C := decide (m.toNat ≤ s.Y.toNat), Z := decide (s.Y = m), N := (s.Y - m)[7]
      PC := s.PC + BitVec.ofNat 16 i.size })

/-- TRB and TSB in both forms: the bits of A are cleared or set in the byte, Z says A and the old byte had no bit in common,
N, V, C and A are unchanged (44_logical.md R157, R158, decisions of the spec, D8). -/
def Obligations.TestAndChangeBits : Prop :=
  ∀ (i : Instr) (m : MemMode) (s : State) (ea : Addr), i.operand = .mem m → effectiveAddress m s = .next ea →
    s.kindOf ea = .ram →
    (i.mnemonic = .trb → exec i s = .next { s with
      mem := s.mem.write ea.toNat (s.peek ea &&& ~~~s.A), Z := s.A &&& s.peek ea == 0
      PC := s.PC + BitVec.ofNat 16 i.size }) ∧
    (i.mnemonic = .tsb → exec i s = .next { s with
      mem := s.mem.write ea.toNat (s.peek ea ||| s.A), Z := s.A &&& s.peek ea == 0
      PC := s.PC + BitVec.ofNat 16 i.size })

/-- ADC and SBC with D = 0, in every form: A, N, V, Z and C are those of the binary sum or difference, nothing else changes
but PC (45_math.md R165, R166, decisions of the spec, D4, D5). -/
def Obligations.BinaryAddAndSubtract : Prop :=
  ∀ (i : Instr) (src : Source) (s : State) (m : Byte), i.operand.source? = some src → readSource src s = .next m →
    s.D = false →
    (i.mnemonic = .adc → exec i s = .next { s with
      A := s.A + m + BitVec.ofNat 8 (bit s.C)
      N := (s.A + m + BitVec.ofNat 8 (bit s.C))[7]
      V := decide (s.A.toInt + m.toInt + bit s.C < -128 ∨ 127 < s.A.toInt + m.toInt + bit s.C)
      Z := s.A + m + BitVec.ofNat 8 (bit s.C) == 0
      C := decide (256 ≤ s.A.toNat + m.toNat + bit s.C)
      PC := s.PC + BitVec.ofNat 16 i.size }) ∧
    (i.mnemonic = .sbc → exec i s = .next { s with
      A := s.A - m - BitVec.ofNat 8 (1 - bit s.C)
      N := (s.A - m - BitVec.ofNat 8 (1 - bit s.C))[7]
      V := decide (s.A.toInt - m.toInt - (1 - bit s.C) < -128 ∨ 127 < s.A.toInt - m.toInt - (1 - bit s.C))
      Z := s.A - m - BitVec.ofNat 8 (1 - bit s.C) == 0
      C := decide (m.toNat + (1 - bit s.C) ≤ s.A.toNat)
      PC := s.PC + BitVec.ofNat 16 i.size })

/-- The overflow bit as the spec writes it, by the signs of the operands and the result, is two's complement overflow
(45_math.md R165, R166, decisions of the spec, D4). -/
def Obligations.OverflowIsSigned : Prop :=
  ∀ (a m : Byte) (c : Bool),
    ((addBinary a m c).v = true ↔ ¬ (-128 ≤ a.toInt + m.toInt + bit c ∧ a.toInt + m.toInt + bit c ≤ 127)) ∧
    ((subBinary a m c).v = true ↔
      ¬ (-128 ≤ a.toInt - m.toInt - (1 - bit c) ∧ a.toInt - m.toInt - (1 - bit c) ≤ 127))

/-- ADC and SBC with D = 1 and valid BCD operands, in every form: A is the BCD byte of the decimal sum or difference modulo
100, C its carry or "no borrow", N and Z describe A, V is any value (45_math.md R167, R168 case 1, R169, decisions of the spec,
D7). That V is drawn at an index is log 4, and that the index `draws`, the model's own field, moves on by one is log 5. -/
def Obligations.DecimalAddAndSubtract : Prop :=
  ∀ (i : Instr) (src : Source) (s : State) (m : Byte), i.operand.source? = some src → readSource src s = .next m →
    s.D = true → validBcd s.A = true → validBcd m = true →
    (i.mnemonic = .adc → ∃ v, exec i s = .next { s with
      A := bcdOf ((decOf s.A + decOf m + bit s.C) % 100)
      N := (bcdOf ((decOf s.A + decOf m + bit s.C) % 100))[7]
      V := v
      Z := bcdOf ((decOf s.A + decOf m + bit s.C) % 100) == 0
      C := decide (100 ≤ decOf s.A + decOf m + bit s.C)
      draws := s.draws + 1, PC := s.PC + BitVec.ofNat 16 i.size }) ∧
    (i.mnemonic = .sbc → ∃ v, exec i s = .next { s with
      A := bcdOf ((decOf s.A + 100 - decOf m - (1 - bit s.C)) % 100)
      N := (bcdOf ((decOf s.A + 100 - decOf m - (1 - bit s.C)) % 100))[7]
      V := v
      Z := bcdOf ((decOf s.A + 100 - decOf m - (1 - bit s.C)) % 100) == 0
      C := decide (decOf m + (1 - bit s.C) ≤ decOf s.A)
      draws := s.draws + 1, PC := s.PC + BitVec.ofNat 16 i.size })

/-- ADC and SBC with D = 1 where an operand is not valid BCD, in every form: the instruction completes, A, N, V, Z and C are
free values, and nothing else of the spec's state changes but PC (45_math.md R167, R168 case 2, R169, decisions of the spec,
D7). That they are drawn at an index is log 4, and that the index `draws`, the model's own field, moves on by one is log 5. -/
def Obligations.DecimalWithoutBcdOperands : Prop :=
  ∀ (i : Instr) (src : Source) (s : State) (m : Byte), i.operand.source? = some src → readSource src s = .next m →
    s.D = true → (validBcd s.A = false ∨ validBcd m = false) → (i.mnemonic = .adc ∨ i.mnemonic = .sbc) →
    ∃ a n v z c, exec i s = .next { s with
      A := a, N := n, V := v, Z := z, C := c, draws := s.draws + 1, PC := s.PC + BitVec.ofNat 16 i.size }

/-- Decimal results are exact: the result is valid BCD, and with the carry as a hundred it is the sum, or, with the borrow
as a hundred, the difference (45_math.md R167, R168 case 1, decisions of the spec, D7). -/
def Obligations.DecimalResultsExact : Prop :=
  ∀ (a m : Byte) (c : Bool) (draw : BcdDraw), validBcd a = true → validBcd m = true →
    validBcd (addDecimal a m c draw).r = true ∧
    decOf (addDecimal a m c draw).r + 100 * bit (addDecimal a m c draw).c = decOf a + decOf m + bit c ∧
    validBcd (subDecimal a m c draw).r = true ∧
    decOf (subDecimal a m c draw).r + decOf m + (1 - bit c) = decOf a + 100 * (1 - bit (subDecimal a m c draw).c)

/-! ## Flags, branches, jumps -/

/-- CLC, CLD, CLI, CLV, SEC, SED and SEI give one flag a constant and touch nothing else but PC; NOP changes PC alone
(47_status.md R200 to R206, 49_misc.md R220). -/
def Obligations.FlagInstructionsAndNop : Prop :=
  encode .clc = [0x18] ∧ encode .cld = [0xD8] ∧ encode .cli = [0x58] ∧ encode .clv = [0xB8] ∧
  encode .sec = [0x38] ∧ encode .sed = [0xF8] ∧ encode .sei = [0x78] ∧ encode .nop = [0xEA] ∧
  ∀ s : State,
    exec .clc s = .next { s with C := false, PC := s.PC + 1 } ∧
    exec .cld s = .next { s with D := false, PC := s.PC + 1 } ∧
    exec .cli s = .next { s with I := false, PC := s.PC + 1 } ∧
    exec .clv s = .next { s with V := false, PC := s.PC + 1 } ∧
    exec .sec s = .next { s with C := true, PC := s.PC + 1 } ∧
    exec .sed s = .next { s with D := true, PC := s.PC + 1 } ∧
    exec .sei s = .next { s with I := true, PC := s.PC + 1 } ∧
    exec .nop s = .next { s with PC := s.PC + 1 }

/-- The nine branches, for every operand byte: two bytes, taken on the flag the rule names, to the next instruction's address
plus the sign-extended byte, and nothing but PC changes (46_flow.md R181, R185 to R193). -/
def Obligations.BranchesAddTheOffset : Prop :=
  ∀ (b : Byte) (s : State),
    encode (.bra b.toInt) = [0x80, b] ∧ encode (.beq b.toInt) = [0xF0, b] ∧ encode (.bne b.toInt) = [0xD0, b] ∧
    encode (.bcc b.toInt) = [0x90, b] ∧ encode (.bcs b.toInt) = [0xB0, b] ∧ encode (.bvc b.toInt) = [0x50, b] ∧
    encode (.bvs b.toInt) = [0x70, b] ∧ encode (.bmi b.toInt) = [0x30, b] ∧ encode (.bpl b.toInt) = [0x10, b] ∧
    exec (.bra b.toInt) s = .next { s with PC := s.PC + 2 + b.signExtend 16 } ∧
    exec (.beq b.toInt) s = .next { s with PC := if s.Z = true then s.PC + 2 + b.signExtend 16 else s.PC + 2 } ∧
    exec (.bne b.toInt) s = .next { s with PC := if s.Z = false then s.PC + 2 + b.signExtend 16 else s.PC + 2 } ∧
    exec (.bcc b.toInt) s = .next { s with PC := if s.C = false then s.PC + 2 + b.signExtend 16 else s.PC + 2 } ∧
    exec (.bcs b.toInt) s = .next { s with PC := if s.C = true then s.PC + 2 + b.signExtend 16 else s.PC + 2 } ∧
    exec (.bvc b.toInt) s = .next { s with PC := if s.V = false then s.PC + 2 + b.signExtend 16 else s.PC + 2 } ∧
    exec (.bvs b.toInt) s = .next { s with PC := if s.V = true then s.PC + 2 + b.signExtend 16 else s.PC + 2 } ∧
    exec (.bmi b.toInt) s = .next { s with PC := if s.N = true then s.PC + 2 + b.signExtend 16 else s.PC + 2 } ∧
    exec (.bpl b.toInt) s = .next { s with PC := if s.N = false then s.PC + 2 + b.signExtend 16 else s.PC + 2 }

/-- JMP in its three forms: to the address itself, or to the address its pointer holds, low byte first, the high byte from
the next 16-bit address; nothing but PC changes (46_flow.md R180, 30_encoding.md R81, R84). -/
def Obligations.JumpsSetPC : Prop :=
  (∀ (a p : Addr),
    encode (.jmpAbs a) = [0x4C, lo8 a, hi8 a] ∧ encode (.jmpInd p) = [0x6C, lo8 p, hi8 p] ∧
    encode (.jmpIax p) = [0x7C, lo8 p, hi8 p]) ∧
  (∀ (a : Addr) (s : State), exec (.jmpAbs a) s = .next { s with PC := a }) ∧
  (∀ (p : Addr) (s : State) (lo hi : Byte), readByte p s = .next lo → readByte (p + 1) s = .next hi →
    exec (.jmpInd p) s = .next { s with PC := word16 hi lo }) ∧
  (∀ (p : Addr) (s : State) (lo hi : Byte), readByte (p + s.X.setWidth 16) s = .next lo →
    readByte (p + s.X.setWidth 16 + 1) s = .next hi → exec (.jmpIax p) s = .next { s with PC := word16 hi lo })

/-- JSR pushes the address of its third byte, high byte first, and goes to its operand; no flag changes. It is refused just
where one of its pushes falls on its own second or third byte (46_flow.md R182, a decision of the spec, D9;
93_implementation_defined.md U9, log 15). -/
def Obligations.JsrPushesReturnAddress : Prop :=
  (∀ (a : Addr) (s : State), s.kindOf (stackAddr s.S) = .ram → s.kindOf (stackAddr (s.S - 1)) = .ram →
    (∀ p ∈ [stackAddr s.S, stackAddr (s.S - 1)], p ≠ s.PC + 1 ∧ p ≠ s.PC + 2) →
    exec (.jsr a) s = .next { s with
      mem := (s.mem.write (stackAddr s.S).toNat (hi8 (s.PC + 2))).write (stackAddr (s.S - 1)).toNat (lo8 (s.PC + 2))
      S := s.S - 2, PC := a }) ∧
  (∀ (a : Addr) (s : State), exec (.jsr a) s = .refused .jsrOverwritesItself ↔
    (∃ p ∈ [stackAddr s.S, stackAddr (s.S - 1)], p = s.PC + 1 ∨ p = s.PC + 2))

/-- RTS pulls the address, low byte first, and goes to the one after it (46_flow.md R183, a decision of the spec, D9). -/
def Obligations.RtsPullsAndAddsOne : Prop :=
  ∀ (s : State) (lo hi : Byte), readByte (stackAddr (s.S + 1)) s = .next lo →
    readByte (stackAddr (s.S + 2)) s = .next hi →
    exec .rts s = .next { s with S := s.S + 2, PC := word16 hi lo + 1 }

/-- RTS right after a JSR resumes at the instruction after the JSR, with S as it was (46_flow.md R182, R183, decisions of the
spec, D9). -/
def Obligations.RtsUndoesJsr : Prop :=
  ∀ (a : Addr) (s t : State), exec (.jsr a) s = .next t →
    exec .rts t = .next { s with mem := t.mem, PC := s.PC + 3 }

/-! ## Addressing modes -/

/-- The modes whose every corner is in the source's own words: immediate, absolute, zero page, zero page indexed (no carry into
the high byte) and `(Zpg,X)`, whose pointer stays in page zero (30_encoding.md R72 to R76, R80). -/
def Obligations.EffectiveAddressesOfModes : Prop :=
  ∀ (s : State) (v zp : Byte) (a : Addr),
    readSource (.imm v) s = .next v ∧
    effectiveAddress (.abs a) s = .next a ∧
    effectiveAddress (.zpg zp) s = .next (BitVec.ofNat 16 zp.toNat) ∧
    effectiveAddress (.zpx zp) s = .next (BitVec.ofNat 16 ((zp.toNat + s.X.toNat) % 256)) ∧
    effectiveAddress (.zpy zp) s = .next (BitVec.ofNat 16 ((zp.toNat + s.Y.toNat) % 256)) ∧
    (∀ lo hi, readByte (BitVec.ofNat 16 ((zp.toNat + s.X.toNat) % 256)) s = .next lo →
      readByte (BitVec.ofNat 16 ((zp.toNat + s.X.toNat + 1) % 256)) s = .next hi →
      effectiveAddress (.izx zp) s = .next (BitVec.ofNat 16 (lo.toNat + 256 * hi.toNat)))

/-- The modes where the spec decides a wrap: the pointer of `(Zpg)` and `(Zpg),Y` stays in page zero; the indexed sums wrap modulo
65536, with the carry out of the low byte into the high byte, and Y is added after the indirection (30_encoding.md R77, R78,
R82, R83; the wraps are a decision of the spec, D17). -/
def Obligations.IndexedAddressesWrap : Prop :=
  ∀ (s : State) (zp : Byte) (a : Addr),
    (∀ lo hi, readByte (BitVec.ofNat 16 zp.toNat) s = .next lo →
      readByte (BitVec.ofNat 16 ((zp.toNat + 1) % 256)) s = .next hi →
      effectiveAddress (.izp zp) s = .next (BitVec.ofNat 16 (lo.toNat + 256 * hi.toNat))) ∧
    effectiveAddress (.abx a) s = .next (BitVec.ofNat 16 ((a.toNat + s.X.toNat) % 65536)) ∧
    effectiveAddress (.aby a) s = .next (BitVec.ofNat 16 ((a.toNat + s.Y.toNat) % 65536)) ∧
    (∀ lo hi, readByte (BitVec.ofNat 16 zp.toNat) s = .next lo →
      readByte (BitVec.ofNat 16 ((zp.toNat + 1) % 256)) s = .next hi →
      effectiveAddress (.izy zp) s =
        .next (BitVec.ofNat 16 ((lo.toNat + 256 * hi.toNat + s.Y.toNat) % 65536)))

/-! ## Frames over all instructions -/

/-- No instruction changes a flag that the table of flags written does not give it (10_state.md R18, second table). -/
def Obligations.OnlyListedFlagsChange : Prop :=
  ∀ (i : Instr) (s t : State) (f : Flag), exec i s = .next t → f ∉ flagsWritten i → t.flag f = s.flag f

/-- No instruction changes an 8-bit register that the access table does not give it (10_state.md, the table after R12, and
R13 for S). -/
def Obligations.OnlyListedRegistersChange : Prop :=
  ∀ (i : Instr) (s t : State) (r : Reg), exec i s = .next t → r ∉ registersWritten i → t.reg r = s.reg r

/-- No instruction changes a byte of memory but those it stores to: its effective address, computed as its meaning computes
it, or the stack addresses it pushes at (20_memory.md R48, a decision of the spec, D19). -/
def Obligations.OnlyStoredBytesChange : Prop :=
  ∀ (i : Instr) (s t : State) (a : Addr), exec i s = .next t → a ∉ storedAddresses i s → t.peek a = s.peek a

/-- Every instruction that is not a control transfer goes on to the next one (10_state.md R14; the wrap at `$FFFF` is a
decision of the spec, D17). -/
def Obligations.StraightLineAdvancesPC : Prop :=
  ∀ (i : Instr) (s t : State), exec i s = .next t → assignsPC i = false → t.PC = s.PC + BitVec.ofNat 16 i.size

/-- No instruction touches the request lines, Env's inputs or the memory map, and only a decimal ADC or SBC uses up a free
value (10_state.md R26, 60_exceptions.md R232, 45_math.md R169; decisions of the spec, D7, D14, D19). The fields `draws`, `env`
and `memMap` it speaks of are the model's form of them: logs 5, 6 and 11. -/
def Obligations.InstructionsLeaveTheRestAlone : Prop :=
  ∀ (i : Instr) (s t : State), exec i s = .next t →
    t.irqLine = s.irqLine ∧ t.nmiPending = s.nmiPending ∧ t.env = s.env ∧ t.memMap = s.memMap ∧
    (s.D = false ∨ (i.mnemonic ≠ .adc ∧ i.mnemonic ≠ .sbc) → t.draws = s.draws)

/-- I changes only where the spec says: with I clear, only SEI, PLP, RTI, BRK and the entries and RESET can set it; with I
set, only CLI, PLP, RTI can clear it (60_exceptions.md R236, a decision of the spec, D14). That an entry or a RESET is a step of
its own is log 8. -/
def Obligations.InterruptDisableChangesOnlyHere : Prop :=
  ∀ s t : State, step s = .next t →
    (s.I = true → t.I = false → ∃ u i, boundary s = .instruction u ∧ fetch u = .next i ∧
      (i.mnemonic = .cli ∨ i.mnemonic = .plp ∨ i.mnemonic = .rti)) ∧
    (s.I = false → t.I = true → (∀ u, boundary s ≠ .instruction u) ∨ ∃ u i, boundary s = .instruction u ∧
      fetch u = .next i ∧ (i.mnemonic = .sei ∨ i.mnemonic = .plp ∨ i.mnemonic = .rti ∨ i.mnemonic = .brk))

/-! ## The columns of the opcode map -/

/-- The mnemonic and format columns of the opcode map (30_encoding.md R61, R63): each row has the mnemonic and the format the
grid gives its opcode byte, the instruction it builds has that mnemonic and an operand of that format, and its encoding is the
opcode byte and as many operand bytes as the format has. -/
def Obligations.MnemonicAndFormatColumns : Prop :=
  opcodeRows.map (fun r => (r.opcode, r.mnemonic, r.format)) =
    ([(0xA9, .lda, .imm), (0xA5, .lda, .zpg), (0xB5, .lda, .zpx), (0xAD, .lda, .abs), (0xBD, .lda, .abx),
     (0xB9, .lda, .aby), (0xA1, .lda, .izx), (0xB1, .lda, .izy), (0xB2, .lda, .izp), (0xA2, .ldx, .imm),
     (0xA6, .ldx, .zpg), (0xB6, .ldx, .zpy), (0xAE, .ldx, .abs), (0xBE, .ldx, .aby), (0xA0, .ldy, .imm),
     (0xA4, .ldy, .zpg), (0xB4, .ldy, .zpx), (0xAC, .ldy, .abs), (0xBC, .ldy, .abx), (0x85, .sta, .zpg),
     (0x95, .sta, .zpx), (0x8D, .sta, .abs), (0x9D, .sta, .abx), (0x99, .sta, .aby), (0x81, .sta, .izx),
     (0x91, .sta, .izy), (0x92, .sta, .izp), (0x86, .stx, .zpg), (0x96, .stx, .zpy), (0x8E, .stx, .abs),
     (0x84, .sty, .zpg), (0x94, .sty, .zpx), (0x8C, .sty, .abs), (0x64, .stz, .zpg), (0x74, .stz, .zpx),
     (0x9C, .stz, .abs), (0x9E, .stz, .abx)] : List (Byte × Mnemonic × Format)) ++
    ([(0x48, .pha, .imp), (0xDA, .phx, .imp), (0x5A, .phy, .imp), (0x08, .php, .imp), (0x68, .pla, .imp),
     (0xFA, .plx, .imp), (0x7A, .ply, .imp), (0x28, .plp, .imp), (0xBA, .tsx, .imp), (0x9A, .txs, .imp)] : List (Byte × Mnemonic × Format)) ++
    ([(0x1A, .ina, .acc), (0xE8, .inx, .imp), (0xC8, .iny, .imp), (0x3A, .dea, .acc), (0xCA, .dex, .imp),
     (0x88, .dey, .imp), (0xE6, .inc, .zpg), (0xF6, .inc, .zpx), (0xEE, .inc, .abs), (0xFE, .inc, .abx),
     (0xC6, .dec, .zpg), (0xD6, .dec, .zpx), (0xCE, .dec, .abs), (0xDE, .dec, .abx)] : List (Byte × Mnemonic × Format)) ++
    ([(0x0A, .asl, .acc), (0x06, .asl, .zpg), (0x16, .asl, .zpx), (0x0E, .asl, .abs), (0x1E, .asl, .abx),
     (0x4A, .lsr, .acc), (0x46, .lsr, .zpg), (0x56, .lsr, .zpx), (0x4E, .lsr, .abs), (0x5E, .lsr, .abx),
     (0x2A, .rol, .acc), (0x26, .rol, .zpg), (0x36, .rol, .zpx), (0x2E, .rol, .abs), (0x3E, .rol, .abx),
     (0x6A, .ror, .acc), (0x66, .ror, .zpg), (0x76, .ror, .zpx), (0x6E, .ror, .abs), (0x7E, .ror, .abx)] : List (Byte × Mnemonic × Format)) ++
    ([(0x29, .and, .imm), (0x25, .and, .zpg), (0x35, .and, .zpx), (0x2D, .and, .abs), (0x3D, .and, .abx),
     (0x39, .and, .aby), (0x21, .and, .izx), (0x31, .and, .izy), (0x32, .and, .izp), (0x09, .ora, .imm),
     (0x05, .ora, .zpg), (0x15, .ora, .zpx), (0x0D, .ora, .abs), (0x1D, .ora, .abx), (0x19, .ora, .aby),
     (0x01, .ora, .izx), (0x11, .ora, .izy), (0x12, .ora, .izp), (0x49, .eor, .imm), (0x45, .eor, .zpg),
     (0x55, .eor, .zpx), (0x4D, .eor, .abs), (0x5D, .eor, .abx), (0x59, .eor, .aby), (0x41, .eor, .izx),
     (0x51, .eor, .izy), (0x52, .eor, .izp), (0x89, .bit, .imm), (0x24, .bit, .zpg), (0x34, .bit, .zpx),
     (0x2C, .bit, .abs), (0x3C, .bit, .abx), (0xC9, .cmp, .imm), (0xC5, .cmp, .zpg), (0xD5, .cmp, .zpx),
     (0xCD, .cmp, .abs), (0xDD, .cmp, .abx), (0xD9, .cmp, .aby), (0xC1, .cmp, .izx), (0xD1, .cmp, .izy),
     (0xD2, .cmp, .izp), (0xE0, .cpx, .imm), (0xE4, .cpx, .zpg), (0xEC, .cpx, .abs), (0xC0, .cpy, .imm),
     (0xC4, .cpy, .zpg), (0xCC, .cpy, .abs), (0x14, .trb, .zpg), (0x1C, .trb, .abs), (0x04, .tsb, .zpg),
     (0x0C, .tsb, .abs)] : List (Byte × Mnemonic × Format)) ++
    ([(0x69, .adc, .imm), (0x65, .adc, .zpg), (0x75, .adc, .zpx), (0x6D, .adc, .abs), (0x7D, .adc, .abx),
     (0x79, .adc, .aby), (0x61, .adc, .izx), (0x71, .adc, .izy), (0x72, .adc, .izp), (0xE9, .sbc, .imm),
     (0xE5, .sbc, .zpg), (0xF5, .sbc, .zpx), (0xED, .sbc, .abs), (0xFD, .sbc, .abx), (0xF9, .sbc, .aby),
     (0xE1, .sbc, .izx), (0xF1, .sbc, .izy), (0xF2, .sbc, .izp)] : List (Byte × Mnemonic × Format)) ++
    ([(0x4C, .jmp, .abs), (0x6C, .jmp, .ind), (0x7C, .jmp, .iax), (0x20, .jsr, .abs), (0x60, .rts, .imp),
     (0x40, .rti, .imp), (0x80, .bra, .rel), (0xF0, .beq, .rel), (0xD0, .bne, .rel), (0x90, .bcc, .rel),
     (0xB0, .bcs, .rel), (0x50, .bvc, .rel), (0x70, .bvs, .rel), (0x30, .bmi, .rel), (0x10, .bpl, .rel)] : List (Byte × Mnemonic × Format)) ++
    ([(0x18, .clc, .imp), (0xD8, .cld, .imp), (0x58, .cli, .imp), (0xB8, .clv, .imp), (0x38, .sec, .imp),
     (0xF8, .sed, .imp), (0x78, .sei, .imp)] : List (Byte × Mnemonic × Format)) ++
    ([(0xAA, .tax, .imp), (0xA8, .tay, .imp), (0x8A, .txa, .imp), (0x98, .tya, .imp)] : List (Byte × Mnemonic × Format)) ++
    ([(0xEA, .nop, .imp), (0x00, .brk, .imp)] : List (Byte × Mnemonic × Format)) ∧
  ∀ r ∈ opcodeRows, ∀ b1 b2 : Byte,
    (r.build b1 b2).mnemonic = r.mnemonic ∧ (r.build b1 b2).operand.format = r.format ∧
    encode (r.build b1 b2) = [r.opcode, b1, b2].take r.format.size
end

