-- ==== Sys2Proof/Laws/State.lean ====
section
/-! SUPPORT. What each named update of the state leaves in each field: one lemma per field per update. -/

namespace Sys2Proof.Machine

variable (s : State)

@[simp] theorem setReg_a_A (v : Byte) : (s.setReg .a v).A = v := rfl
@[simp] theorem setReg_x_A (v : Byte) : (s.setReg .x v).A = s.A := rfl
@[simp] theorem setReg_y_A (v : Byte) : (s.setReg .y v).A = s.A := rfl
@[simp] theorem setReg_s_A (v : Byte) : (s.setReg .s v).A = s.A := rfl
@[simp] theorem setReg_a_X (v : Byte) : (s.setReg .a v).X = s.X := rfl
@[simp] theorem setReg_x_X (v : Byte) : (s.setReg .x v).X = v := rfl
@[simp] theorem setReg_y_X (v : Byte) : (s.setReg .y v).X = s.X := rfl
@[simp] theorem setReg_s_X (v : Byte) : (s.setReg .s v).X = s.X := rfl
@[simp] theorem setReg_a_Y (v : Byte) : (s.setReg .a v).Y = s.Y := rfl
@[simp] theorem setReg_x_Y (v : Byte) : (s.setReg .x v).Y = s.Y := rfl
@[simp] theorem setReg_y_Y (v : Byte) : (s.setReg .y v).Y = v := rfl
@[simp] theorem setReg_s_Y (v : Byte) : (s.setReg .s v).Y = s.Y := rfl
@[simp] theorem setReg_a_S (v : Byte) : (s.setReg .a v).S = s.S := rfl
@[simp] theorem setReg_x_S (v : Byte) : (s.setReg .x v).S = s.S := rfl
@[simp] theorem setReg_y_S (v : Byte) : (s.setReg .y v).S = s.S := rfl
@[simp] theorem setReg_s_S (v : Byte) : (s.setReg .s v).S = v := rfl
@[simp] theorem setReg_PC (r : Reg) (v : Byte) : (s.setReg r v).PC = s.PC := by cases r <;> rfl
@[simp] theorem setReg_N (r : Reg) (v : Byte) : (s.setReg r v).N = s.N := by cases r <;> rfl
@[simp] theorem setReg_V (r : Reg) (v : Byte) : (s.setReg r v).V = s.V := by cases r <;> rfl
@[simp] theorem setReg_D (r : Reg) (v : Byte) : (s.setReg r v).D = s.D := by cases r <;> rfl
@[simp] theorem setReg_I (r : Reg) (v : Byte) : (s.setReg r v).I = s.I := by cases r <;> rfl
@[simp] theorem setReg_Z (r : Reg) (v : Byte) : (s.setReg r v).Z = s.Z := by cases r <;> rfl
@[simp] theorem setReg_C (r : Reg) (v : Byte) : (s.setReg r v).C = s.C := by cases r <;> rfl
@[simp] theorem setReg_irqLine (r : Reg) (v : Byte) : (s.setReg r v).irqLine = s.irqLine := by cases r <;> rfl
@[simp] theorem setReg_nmiPending (r : Reg) (v : Byte) : (s.setReg r v).nmiPending = s.nmiPending := by cases r <;> rfl
@[simp] theorem setReg_mem (r : Reg) (v : Byte) : (s.setReg r v).mem = s.mem := by cases r <;> rfl
@[simp] theorem setReg_memMap (r : Reg) (v : Byte) : (s.setReg r v).memMap = s.memMap := by cases r <;> rfl
@[simp] theorem setReg_env (r : Reg) (v : Byte) : (s.setReg r v).env = s.env := by cases r <;> rfl
@[simp] theorem setReg_draws (r : Reg) (v : Byte) : (s.setReg r v).draws = s.draws := by cases r <;> rfl

@[simp] theorem setFlag_A (f : Flag) (b : Bool) : (s.setFlag f b).A = s.A := by cases f <;> rfl
@[simp] theorem setFlag_X (f : Flag) (b : Bool) : (s.setFlag f b).X = s.X := by cases f <;> rfl
@[simp] theorem setFlag_Y (f : Flag) (b : Bool) : (s.setFlag f b).Y = s.Y := by cases f <;> rfl
@[simp] theorem setFlag_S (f : Flag) (b : Bool) : (s.setFlag f b).S = s.S := by cases f <;> rfl
@[simp] theorem setFlag_PC (f : Flag) (b : Bool) : (s.setFlag f b).PC = s.PC := by cases f <;> rfl
@[simp] theorem setFlag_n_N (b : Bool) : (s.setFlag .n b).N = b := rfl
@[simp] theorem setFlag_v_N (b : Bool) : (s.setFlag .v b).N = s.N := rfl
@[simp] theorem setFlag_d_N (b : Bool) : (s.setFlag .d b).N = s.N := rfl
@[simp] theorem setFlag_i_N (b : Bool) : (s.setFlag .i b).N = s.N := rfl
@[simp] theorem setFlag_z_N (b : Bool) : (s.setFlag .z b).N = s.N := rfl
@[simp] theorem setFlag_c_N (b : Bool) : (s.setFlag .c b).N = s.N := rfl
@[simp] theorem setFlag_n_V (b : Bool) : (s.setFlag .n b).V = s.V := rfl
@[simp] theorem setFlag_v_V (b : Bool) : (s.setFlag .v b).V = b := rfl
@[simp] theorem setFlag_d_V (b : Bool) : (s.setFlag .d b).V = s.V := rfl
@[simp] theorem setFlag_i_V (b : Bool) : (s.setFlag .i b).V = s.V := rfl
@[simp] theorem setFlag_z_V (b : Bool) : (s.setFlag .z b).V = s.V := rfl
@[simp] theorem setFlag_c_V (b : Bool) : (s.setFlag .c b).V = s.V := rfl
@[simp] theorem setFlag_n_D (b : Bool) : (s.setFlag .n b).D = s.D := rfl
@[simp] theorem setFlag_v_D (b : Bool) : (s.setFlag .v b).D = s.D := rfl
@[simp] theorem setFlag_d_D (b : Bool) : (s.setFlag .d b).D = b := rfl
@[simp] theorem setFlag_i_D (b : Bool) : (s.setFlag .i b).D = s.D := rfl
@[simp] theorem setFlag_z_D (b : Bool) : (s.setFlag .z b).D = s.D := rfl
@[simp] theorem setFlag_c_D (b : Bool) : (s.setFlag .c b).D = s.D := rfl
@[simp] theorem setFlag_n_I (b : Bool) : (s.setFlag .n b).I = s.I := rfl
@[simp] theorem setFlag_v_I (b : Bool) : (s.setFlag .v b).I = s.I := rfl
@[simp] theorem setFlag_d_I (b : Bool) : (s.setFlag .d b).I = s.I := rfl
@[simp] theorem setFlag_i_I (b : Bool) : (s.setFlag .i b).I = b := rfl
@[simp] theorem setFlag_z_I (b : Bool) : (s.setFlag .z b).I = s.I := rfl
@[simp] theorem setFlag_c_I (b : Bool) : (s.setFlag .c b).I = s.I := rfl
@[simp] theorem setFlag_n_Z (b : Bool) : (s.setFlag .n b).Z = s.Z := rfl
@[simp] theorem setFlag_v_Z (b : Bool) : (s.setFlag .v b).Z = s.Z := rfl
@[simp] theorem setFlag_d_Z (b : Bool) : (s.setFlag .d b).Z = s.Z := rfl
@[simp] theorem setFlag_i_Z (b : Bool) : (s.setFlag .i b).Z = s.Z := rfl
@[simp] theorem setFlag_z_Z (b : Bool) : (s.setFlag .z b).Z = b := rfl
@[simp] theorem setFlag_c_Z (b : Bool) : (s.setFlag .c b).Z = s.Z := rfl
@[simp] theorem setFlag_n_C (b : Bool) : (s.setFlag .n b).C = s.C := rfl
@[simp] theorem setFlag_v_C (b : Bool) : (s.setFlag .v b).C = s.C := rfl
@[simp] theorem setFlag_d_C (b : Bool) : (s.setFlag .d b).C = s.C := rfl
@[simp] theorem setFlag_i_C (b : Bool) : (s.setFlag .i b).C = s.C := rfl
@[simp] theorem setFlag_z_C (b : Bool) : (s.setFlag .z b).C = s.C := rfl
@[simp] theorem setFlag_c_C (b : Bool) : (s.setFlag .c b).C = b := rfl
@[simp] theorem setFlag_irqLine (f : Flag) (b : Bool) : (s.setFlag f b).irqLine = s.irqLine := by cases f <;> rfl
@[simp] theorem setFlag_nmiPending (f : Flag) (b : Bool) : (s.setFlag f b).nmiPending = s.nmiPending := by cases f <;> rfl
@[simp] theorem setFlag_mem (f : Flag) (b : Bool) : (s.setFlag f b).mem = s.mem := by cases f <;> rfl
@[simp] theorem setFlag_memMap (f : Flag) (b : Bool) : (s.setFlag f b).memMap = s.memMap := by cases f <;> rfl
@[simp] theorem setFlag_env (f : Flag) (b : Bool) : (s.setFlag f b).env = s.env := by cases f <;> rfl
@[simp] theorem setFlag_draws (f : Flag) (b : Bool) : (s.setFlag f b).draws = s.draws := by cases f <;> rfl

@[simp] theorem setNZ_A (v : Byte) : (s.setNZ v).A = s.A := rfl
@[simp] theorem setNZ_X (v : Byte) : (s.setNZ v).X = s.X := rfl
@[simp] theorem setNZ_Y (v : Byte) : (s.setNZ v).Y = s.Y := rfl
@[simp] theorem setNZ_S (v : Byte) : (s.setNZ v).S = s.S := rfl
@[simp] theorem setNZ_PC (v : Byte) : (s.setNZ v).PC = s.PC := rfl
@[simp] theorem setNZ_N (v : Byte) : (s.setNZ v).N = v[7] := rfl
@[simp] theorem setNZ_V (v : Byte) : (s.setNZ v).V = s.V := rfl
@[simp] theorem setNZ_D (v : Byte) : (s.setNZ v).D = s.D := rfl
@[simp] theorem setNZ_I (v : Byte) : (s.setNZ v).I = s.I := rfl
@[simp] theorem setNZ_Z (v : Byte) : (s.setNZ v).Z = (v == 0) := rfl
@[simp] theorem setNZ_C (v : Byte) : (s.setNZ v).C = s.C := rfl
@[simp] theorem setNZ_irqLine (v : Byte) : (s.setNZ v).irqLine = s.irqLine := rfl
@[simp] theorem setNZ_nmiPending (v : Byte) : (s.setNZ v).nmiPending = s.nmiPending := rfl
@[simp] theorem setNZ_mem (v : Byte) : (s.setNZ v).mem = s.mem := rfl
@[simp] theorem setNZ_memMap (v : Byte) : (s.setNZ v).memMap = s.memMap := rfl
@[simp] theorem setNZ_env (v : Byte) : (s.setNZ v).env = s.env := rfl
@[simp] theorem setNZ_draws (v : Byte) : (s.setNZ v).draws = s.draws := rfl

@[simp] theorem unpackP_A (v : Byte) : (s.unpackP v).A = s.A := rfl
@[simp] theorem unpackP_X (v : Byte) : (s.unpackP v).X = s.X := rfl
@[simp] theorem unpackP_Y (v : Byte) : (s.unpackP v).Y = s.Y := rfl
@[simp] theorem unpackP_S (v : Byte) : (s.unpackP v).S = s.S := rfl
@[simp] theorem unpackP_PC (v : Byte) : (s.unpackP v).PC = s.PC := rfl
@[simp] theorem unpackP_N (v : Byte) : (s.unpackP v).N = v[7] := rfl
@[simp] theorem unpackP_V (v : Byte) : (s.unpackP v).V = v[6] := rfl
@[simp] theorem unpackP_D (v : Byte) : (s.unpackP v).D = v[3] := rfl
@[simp] theorem unpackP_I (v : Byte) : (s.unpackP v).I = v[2] := rfl
@[simp] theorem unpackP_Z (v : Byte) : (s.unpackP v).Z = v[1] := rfl
@[simp] theorem unpackP_C (v : Byte) : (s.unpackP v).C = v[0] := rfl
@[simp] theorem unpackP_irqLine (v : Byte) : (s.unpackP v).irqLine = s.irqLine := rfl
@[simp] theorem unpackP_nmiPending (v : Byte) : (s.unpackP v).nmiPending = s.nmiPending := rfl
@[simp] theorem unpackP_mem (v : Byte) : (s.unpackP v).mem = s.mem := rfl
@[simp] theorem unpackP_memMap (v : Byte) : (s.unpackP v).memMap = s.memMap := rfl
@[simp] theorem unpackP_env (v : Byte) : (s.unpackP v).env = s.env := rfl
@[simp] theorem unpackP_draws (v : Byte) : (s.unpackP v).draws = s.draws := rfl

@[simp] theorem setShiftFlags_A (r : Shifted) : (s.setShiftFlags r).A = s.A := rfl
@[simp] theorem setShiftFlags_X (r : Shifted) : (s.setShiftFlags r).X = s.X := rfl
@[simp] theorem setShiftFlags_Y (r : Shifted) : (s.setShiftFlags r).Y = s.Y := rfl
@[simp] theorem setShiftFlags_S (r : Shifted) : (s.setShiftFlags r).S = s.S := rfl
@[simp] theorem setShiftFlags_PC (r : Shifted) : (s.setShiftFlags r).PC = s.PC := rfl
@[simp] theorem setShiftFlags_N (r : Shifted) : (s.setShiftFlags r).N = r.r[7] := rfl
@[simp] theorem setShiftFlags_V (r : Shifted) : (s.setShiftFlags r).V = s.V := rfl
@[simp] theorem setShiftFlags_D (r : Shifted) : (s.setShiftFlags r).D = s.D := rfl
@[simp] theorem setShiftFlags_I (r : Shifted) : (s.setShiftFlags r).I = s.I := rfl
@[simp] theorem setShiftFlags_Z (r : Shifted) : (s.setShiftFlags r).Z = (r.r == 0) := rfl
@[simp] theorem setShiftFlags_C (r : Shifted) : (s.setShiftFlags r).C = r.c := rfl
@[simp] theorem setShiftFlags_irqLine (r : Shifted) : (s.setShiftFlags r).irqLine = s.irqLine := rfl
@[simp] theorem setShiftFlags_nmiPending (r : Shifted) : (s.setShiftFlags r).nmiPending = s.nmiPending := rfl
@[simp] theorem setShiftFlags_mem (r : Shifted) : (s.setShiftFlags r).mem = s.mem := rfl
@[simp] theorem setShiftFlags_memMap (r : Shifted) : (s.setShiftFlags r).memMap = s.memMap := rfl
@[simp] theorem setShiftFlags_env (r : Shifted) : (s.setShiftFlags r).env = s.env := rfl
@[simp] theorem setShiftFlags_draws (r : Shifted) : (s.setShiftFlags r).draws = s.draws := rfl

@[simp] theorem setCompareFlags_A (r m : Byte) : (s.setCompareFlags r m).A = s.A := rfl
@[simp] theorem setCompareFlags_X (r m : Byte) : (s.setCompareFlags r m).X = s.X := rfl
@[simp] theorem setCompareFlags_Y (r m : Byte) : (s.setCompareFlags r m).Y = s.Y := rfl
@[simp] theorem setCompareFlags_S (r m : Byte) : (s.setCompareFlags r m).S = s.S := rfl
@[simp] theorem setCompareFlags_PC (r m : Byte) : (s.setCompareFlags r m).PC = s.PC := rfl
@[simp] theorem setCompareFlags_N (r m : Byte) : (s.setCompareFlags r m).N = (r - m)[7] := rfl
@[simp] theorem setCompareFlags_V (r m : Byte) : (s.setCompareFlags r m).V = s.V := rfl
@[simp] theorem setCompareFlags_D (r m : Byte) : (s.setCompareFlags r m).D = s.D := rfl
@[simp] theorem setCompareFlags_I (r m : Byte) : (s.setCompareFlags r m).I = s.I := rfl
@[simp] theorem setCompareFlags_Z (r m : Byte) : (s.setCompareFlags r m).Z = (r - m == 0) := rfl
@[simp] theorem setCompareFlags_C (r m : Byte) : (s.setCompareFlags r m).C = decide (m.toNat ≤ r.toNat) := rfl
@[simp] theorem setCompareFlags_irqLine (r m : Byte) : (s.setCompareFlags r m).irqLine = s.irqLine := rfl
@[simp] theorem setCompareFlags_nmiPending (r m : Byte) : (s.setCompareFlags r m).nmiPending = s.nmiPending := rfl
@[simp] theorem setCompareFlags_mem (r m : Byte) : (s.setCompareFlags r m).mem = s.mem := rfl
@[simp] theorem setCompareFlags_memMap (r m : Byte) : (s.setCompareFlags r m).memMap = s.memMap := rfl
@[simp] theorem setCompareFlags_env (r m : Byte) : (s.setCompareFlags r m).env = s.env := rfl
@[simp] theorem setCompareFlags_draws (r m : Byte) : (s.setCompareFlags r m).draws = s.draws := rfl

@[simp] theorem setTestZ_A (m : Byte) : (s.setTestZ m).A = s.A := rfl
@[simp] theorem setTestZ_X (m : Byte) : (s.setTestZ m).X = s.X := rfl
@[simp] theorem setTestZ_Y (m : Byte) : (s.setTestZ m).Y = s.Y := rfl
@[simp] theorem setTestZ_S (m : Byte) : (s.setTestZ m).S = s.S := rfl
@[simp] theorem setTestZ_PC (m : Byte) : (s.setTestZ m).PC = s.PC := rfl
@[simp] theorem setTestZ_N (m : Byte) : (s.setTestZ m).N = s.N := rfl
@[simp] theorem setTestZ_V (m : Byte) : (s.setTestZ m).V = s.V := rfl
@[simp] theorem setTestZ_D (m : Byte) : (s.setTestZ m).D = s.D := rfl
@[simp] theorem setTestZ_I (m : Byte) : (s.setTestZ m).I = s.I := rfl
@[simp] theorem setTestZ_Z (m : Byte) : (s.setTestZ m).Z = (s.A &&& m == 0) := rfl
@[simp] theorem setTestZ_C (m : Byte) : (s.setTestZ m).C = s.C := rfl
@[simp] theorem setTestZ_irqLine (m : Byte) : (s.setTestZ m).irqLine = s.irqLine := rfl
@[simp] theorem setTestZ_nmiPending (m : Byte) : (s.setTestZ m).nmiPending = s.nmiPending := rfl
@[simp] theorem setTestZ_mem (m : Byte) : (s.setTestZ m).mem = s.mem := rfl
@[simp] theorem setTestZ_memMap (m : Byte) : (s.setTestZ m).memMap = s.memMap := rfl
@[simp] theorem setTestZ_env (m : Byte) : (s.setTestZ m).env = s.env := rfl
@[simp] theorem setTestZ_draws (m : Byte) : (s.setTestZ m).draws = s.draws := rfl

@[simp] theorem setBitFlags_A (m : Byte) : (s.setBitFlags m).A = s.A := rfl
@[simp] theorem setBitFlags_X (m : Byte) : (s.setBitFlags m).X = s.X := rfl
@[simp] theorem setBitFlags_Y (m : Byte) : (s.setBitFlags m).Y = s.Y := rfl
@[simp] theorem setBitFlags_S (m : Byte) : (s.setBitFlags m).S = s.S := rfl
@[simp] theorem setBitFlags_PC (m : Byte) : (s.setBitFlags m).PC = s.PC := rfl
@[simp] theorem setBitFlags_N (m : Byte) : (s.setBitFlags m).N = m[7] := rfl
@[simp] theorem setBitFlags_V (m : Byte) : (s.setBitFlags m).V = m[6] := rfl
@[simp] theorem setBitFlags_D (m : Byte) : (s.setBitFlags m).D = s.D := rfl
@[simp] theorem setBitFlags_I (m : Byte) : (s.setBitFlags m).I = s.I := rfl
@[simp] theorem setBitFlags_Z (m : Byte) : (s.setBitFlags m).Z = (s.A &&& m == 0) := rfl
@[simp] theorem setBitFlags_C (m : Byte) : (s.setBitFlags m).C = s.C := rfl
@[simp] theorem setBitFlags_irqLine (m : Byte) : (s.setBitFlags m).irqLine = s.irqLine := rfl
@[simp] theorem setBitFlags_nmiPending (m : Byte) : (s.setBitFlags m).nmiPending = s.nmiPending := rfl
@[simp] theorem setBitFlags_mem (m : Byte) : (s.setBitFlags m).mem = s.mem := rfl
@[simp] theorem setBitFlags_memMap (m : Byte) : (s.setBitFlags m).memMap = s.memMap := rfl
@[simp] theorem setBitFlags_env (m : Byte) : (s.setBitFlags m).env = s.env := rfl
@[simp] theorem setBitFlags_draws (m : Byte) : (s.setBitFlags m).draws = s.draws := rfl

@[simp] theorem setSum_A (r : Sum) : (s.setSum r).A = r.r := rfl
@[simp] theorem setSum_X (r : Sum) : (s.setSum r).X = s.X := rfl
@[simp] theorem setSum_Y (r : Sum) : (s.setSum r).Y = s.Y := rfl
@[simp] theorem setSum_S (r : Sum) : (s.setSum r).S = s.S := rfl
@[simp] theorem setSum_PC (r : Sum) : (s.setSum r).PC = s.PC := rfl
@[simp] theorem setSum_N (r : Sum) : (s.setSum r).N = r.n := rfl
@[simp] theorem setSum_V (r : Sum) : (s.setSum r).V = r.v := rfl
@[simp] theorem setSum_D (r : Sum) : (s.setSum r).D = s.D := rfl
@[simp] theorem setSum_I (r : Sum) : (s.setSum r).I = s.I := rfl
@[simp] theorem setSum_Z (r : Sum) : (s.setSum r).Z = r.z := rfl
@[simp] theorem setSum_C (r : Sum) : (s.setSum r).C = r.c := rfl
@[simp] theorem setSum_irqLine (r : Sum) : (s.setSum r).irqLine = s.irqLine := rfl
@[simp] theorem setSum_nmiPending (r : Sum) : (s.setSum r).nmiPending = s.nmiPending := rfl
@[simp] theorem setSum_mem (r : Sum) : (s.setSum r).mem = s.mem := rfl
@[simp] theorem setSum_memMap (r : Sum) : (s.setSum r).memMap = s.memMap := rfl
@[simp] theorem setSum_env (r : Sum) : (s.setSum r).env = s.env := rfl
@[simp] theorem setSum_draws (r : Sum) : (s.setSum r).draws = s.draws := rfl

@[simp] theorem nextDraw_A : (s.nextDraw).A = s.A := rfl
@[simp] theorem nextDraw_X : (s.nextDraw).X = s.X := rfl
@[simp] theorem nextDraw_Y : (s.nextDraw).Y = s.Y := rfl
@[simp] theorem nextDraw_S : (s.nextDraw).S = s.S := rfl
@[simp] theorem nextDraw_PC : (s.nextDraw).PC = s.PC := rfl
@[simp] theorem nextDraw_N : (s.nextDraw).N = s.N := rfl
@[simp] theorem nextDraw_V : (s.nextDraw).V = s.V := rfl
@[simp] theorem nextDraw_D : (s.nextDraw).D = s.D := rfl
@[simp] theorem nextDraw_I : (s.nextDraw).I = s.I := rfl
@[simp] theorem nextDraw_Z : (s.nextDraw).Z = s.Z := rfl
@[simp] theorem nextDraw_C : (s.nextDraw).C = s.C := rfl
@[simp] theorem nextDraw_irqLine : (s.nextDraw).irqLine = s.irqLine := rfl
@[simp] theorem nextDraw_nmiPending : (s.nextDraw).nmiPending = s.nmiPending := rfl
@[simp] theorem nextDraw_mem : (s.nextDraw).mem = s.mem := rfl
@[simp] theorem nextDraw_memMap : (s.nextDraw).memMap = s.memMap := rfl
@[simp] theorem nextDraw_env : (s.nextDraw).env = s.env := rfl
@[simp] theorem nextDraw_draws : (s.nextDraw).draws = s.draws + 1 := rfl

@[simp] theorem drawReset_A (d : ResetDraw) : (s.drawReset d).A = d.a := rfl
@[simp] theorem drawReset_X (d : ResetDraw) : (s.drawReset d).X = d.x := rfl
@[simp] theorem drawReset_Y (d : ResetDraw) : (s.drawReset d).Y = d.y := rfl
@[simp] theorem drawReset_S (d : ResetDraw) : (s.drawReset d).S = d.s := rfl
@[simp] theorem drawReset_PC (d : ResetDraw) : (s.drawReset d).PC = s.PC := rfl
@[simp] theorem drawReset_N (d : ResetDraw) : (s.drawReset d).N = d.n := rfl
@[simp] theorem drawReset_V (d : ResetDraw) : (s.drawReset d).V = d.v := rfl
@[simp] theorem drawReset_D (d : ResetDraw) : (s.drawReset d).D = s.D := rfl
@[simp] theorem drawReset_I (d : ResetDraw) : (s.drawReset d).I = s.I := rfl
@[simp] theorem drawReset_Z (d : ResetDraw) : (s.drawReset d).Z = d.z := rfl
@[simp] theorem drawReset_C (d : ResetDraw) : (s.drawReset d).C = d.c := rfl
@[simp] theorem drawReset_irqLine (d : ResetDraw) : (s.drawReset d).irqLine = s.irqLine := rfl
@[simp] theorem drawReset_nmiPending (d : ResetDraw) : (s.drawReset d).nmiPending = s.nmiPending := rfl
@[simp] theorem drawReset_mem (d : ResetDraw) : (s.drawReset d).mem = s.mem := rfl
@[simp] theorem drawReset_memMap (d : ResetDraw) : (s.drawReset d).memMap = s.memMap := rfl
@[simp] theorem drawReset_env (d : ResetDraw) : (s.drawReset d).env = s.env := rfl
@[simp] theorem drawReset_draws (d : ResetDraw) : (s.drawReset d).draws = s.draws := rfl

@[simp] theorem setPC_A (a : Addr) : (s.setPC a).A = s.A := rfl
@[simp] theorem setPC_X (a : Addr) : (s.setPC a).X = s.X := rfl
@[simp] theorem setPC_Y (a : Addr) : (s.setPC a).Y = s.Y := rfl
@[simp] theorem setPC_S (a : Addr) : (s.setPC a).S = s.S := rfl
@[simp] theorem setPC_PC (a : Addr) : (s.setPC a).PC = a := rfl
@[simp] theorem setPC_N (a : Addr) : (s.setPC a).N = s.N := rfl
@[simp] theorem setPC_V (a : Addr) : (s.setPC a).V = s.V := rfl
@[simp] theorem setPC_D (a : Addr) : (s.setPC a).D = s.D := rfl
@[simp] theorem setPC_I (a : Addr) : (s.setPC a).I = s.I := rfl
@[simp] theorem setPC_Z (a : Addr) : (s.setPC a).Z = s.Z := rfl
@[simp] theorem setPC_C (a : Addr) : (s.setPC a).C = s.C := rfl
@[simp] theorem setPC_irqLine (a : Addr) : (s.setPC a).irqLine = s.irqLine := rfl
@[simp] theorem setPC_nmiPending (a : Addr) : (s.setPC a).nmiPending = s.nmiPending := rfl
@[simp] theorem setPC_mem (a : Addr) : (s.setPC a).mem = s.mem := rfl
@[simp] theorem setPC_memMap (a : Addr) : (s.setPC a).memMap = s.memMap := rfl
@[simp] theorem setPC_env (a : Addr) : (s.setPC a).env = s.env := rfl
@[simp] theorem setPC_draws (a : Addr) : (s.setPC a).draws = s.draws := rfl

@[simp] theorem advance_A (n : Nat) : (s.advance n).A = s.A := rfl
@[simp] theorem advance_X (n : Nat) : (s.advance n).X = s.X := rfl
@[simp] theorem advance_Y (n : Nat) : (s.advance n).Y = s.Y := rfl
@[simp] theorem advance_S (n : Nat) : (s.advance n).S = s.S := rfl
@[simp] theorem advance_PC (n : Nat) : (s.advance n).PC = s.PC + BitVec.ofNat 16 n := rfl
@[simp] theorem advance_N (n : Nat) : (s.advance n).N = s.N := rfl
@[simp] theorem advance_V (n : Nat) : (s.advance n).V = s.V := rfl
@[simp] theorem advance_D (n : Nat) : (s.advance n).D = s.D := rfl
@[simp] theorem advance_I (n : Nat) : (s.advance n).I = s.I := rfl
@[simp] theorem advance_Z (n : Nat) : (s.advance n).Z = s.Z := rfl
@[simp] theorem advance_C (n : Nat) : (s.advance n).C = s.C := rfl
@[simp] theorem advance_irqLine (n : Nat) : (s.advance n).irqLine = s.irqLine := rfl
@[simp] theorem advance_nmiPending (n : Nat) : (s.advance n).nmiPending = s.nmiPending := rfl
@[simp] theorem advance_mem (n : Nat) : (s.advance n).mem = s.mem := rfl
@[simp] theorem advance_memMap (n : Nat) : (s.advance n).memMap = s.memMap := rfl
@[simp] theorem advance_env (n : Nat) : (s.advance n).env = s.env := rfl
@[simp] theorem advance_draws (n : Nat) : (s.advance n).draws = s.draws := rfl

@[simp] theorem poke_A (a : Addr) (v : Byte) : (s.poke a v).A = s.A := rfl
@[simp] theorem poke_X (a : Addr) (v : Byte) : (s.poke a v).X = s.X := rfl
@[simp] theorem poke_Y (a : Addr) (v : Byte) : (s.poke a v).Y = s.Y := rfl
@[simp] theorem poke_S (a : Addr) (v : Byte) : (s.poke a v).S = s.S := rfl
@[simp] theorem poke_PC (a : Addr) (v : Byte) : (s.poke a v).PC = s.PC := rfl
@[simp] theorem poke_N (a : Addr) (v : Byte) : (s.poke a v).N = s.N := rfl
@[simp] theorem poke_V (a : Addr) (v : Byte) : (s.poke a v).V = s.V := rfl
@[simp] theorem poke_D (a : Addr) (v : Byte) : (s.poke a v).D = s.D := rfl
@[simp] theorem poke_I (a : Addr) (v : Byte) : (s.poke a v).I = s.I := rfl
@[simp] theorem poke_Z (a : Addr) (v : Byte) : (s.poke a v).Z = s.Z := rfl
@[simp] theorem poke_C (a : Addr) (v : Byte) : (s.poke a v).C = s.C := rfl
@[simp] theorem poke_irqLine (a : Addr) (v : Byte) : (s.poke a v).irqLine = s.irqLine := rfl
@[simp] theorem poke_nmiPending (a : Addr) (v : Byte) : (s.poke a v).nmiPending = s.nmiPending := rfl
@[simp] theorem poke_mem (a : Addr) (v : Byte) : (s.poke a v).mem = s.mem.write a.toNat v := rfl
@[simp] theorem poke_memMap (a : Addr) (v : Byte) : (s.poke a v).memMap = s.memMap := rfl
@[simp] theorem poke_env (a : Addr) (v : Byte) : (s.poke a v).env = s.env := rfl
@[simp] theorem poke_draws (a : Addr) (v : Byte) : (s.poke a v).draws = s.draws := rfl

@[simp] theorem sampleEnv_A : (sampleEnv s).A = s.A := by unfold sampleEnv; split <;> rfl
@[simp] theorem sampleEnv_X : (sampleEnv s).X = s.X := by unfold sampleEnv; split <;> rfl
@[simp] theorem sampleEnv_Y : (sampleEnv s).Y = s.Y := by unfold sampleEnv; split <;> rfl
@[simp] theorem sampleEnv_S : (sampleEnv s).S = s.S := by unfold sampleEnv; split <;> rfl
@[simp] theorem sampleEnv_PC : (sampleEnv s).PC = s.PC := by unfold sampleEnv; split <;> rfl
@[simp] theorem sampleEnv_N : (sampleEnv s).N = s.N := by unfold sampleEnv; split <;> rfl
@[simp] theorem sampleEnv_V : (sampleEnv s).V = s.V := by unfold sampleEnv; split <;> rfl
@[simp] theorem sampleEnv_D : (sampleEnv s).D = s.D := by unfold sampleEnv; split <;> rfl
@[simp] theorem sampleEnv_I : (sampleEnv s).I = s.I := by unfold sampleEnv; split <;> rfl
@[simp] theorem sampleEnv_Z : (sampleEnv s).Z = s.Z := by unfold sampleEnv; split <;> rfl
@[simp] theorem sampleEnv_C : (sampleEnv s).C = s.C := by unfold sampleEnv; split <;> rfl
@[simp] theorem sampleEnv_mem : (sampleEnv s).mem = s.mem := by unfold sampleEnv; split <;> rfl
@[simp] theorem sampleEnv_memMap : (sampleEnv s).memMap = s.memMap := by unfold sampleEnv; split <;> rfl
@[simp] theorem sampleEnv_draws : (sampleEnv s).draws = s.draws := by unfold sampleEnv; split <;> rfl

/-! The accessors of registers and flags. -/

@[simp] theorem reg_setReg_self (r : Reg) (v : Byte) : (s.setReg r v).reg r = v := by cases r <;> rfl

theorem reg_setReg_ne (r q : Reg) (v : Byte) (h : q ≠ r) : (s.setReg r v).reg q = s.reg q := by
  cases r <;> cases q <;> first | rfl | exact absurd rfl h

@[simp] theorem flag_setFlag_self (f : Flag) (b : Bool) : (s.setFlag f b).flag f = b := by cases f <;> rfl

theorem flag_setFlag_ne (f g : Flag) (b : Bool) (h : g ≠ f) : (s.setFlag f b).flag g = s.flag g := by
  cases f <;> cases g <;> first | rfl | exact absurd rfl h

@[simp] theorem reg_setFlag (f : Flag) (b : Bool) (r : Reg) : (s.setFlag f b).reg r = s.reg r := by
  cases f <;> cases r <;> rfl

@[simp] theorem flag_setReg (r : Reg) (v : Byte) (f : Flag) : (s.setReg r v).flag f = s.flag f := by
  cases r <;> cases f <;> rfl

end Sys2Proof.Machine
end

