-- ==== Sys2Proof/Laws/Ops.lean ====
section
/-! SUPPORT. For each shared operation over memory and the stack, one lemma that says once what it does when it answers a
next value, and the lemmas of byte order. -/

namespace Sys2Proof

@[simp] theorem word16_hi8_lo8 (w : Addr) : word16 (hi8 w) (lo8 w) = w := by
  unfold word16 hi8 lo8
  apply BitVec.eq_of_getLsbD_eq
  intro i hi
  simp only [BitVec.getLsbD_append, BitVec.getLsbD_extractLsb']
  by_cases h : i < 8
  · simp [h]
  · simp [h, show i - 8 < 8 by omega, show 8 + (i - 8) = i by omega]

@[simp] theorem hi8_word16 (hi lo : Byte) : hi8 (word16 hi lo) = hi := by
  unfold word16 hi8
  apply BitVec.eq_of_getLsbD_eq
  intro i h
  rw [BitVec.getLsbD_extractLsb', BitVec.getLsbD_append]
  simp [h]

@[simp] theorem lo8_word16 (hi lo : Byte) : lo8 (word16 hi lo) = lo := by
  unfold word16 lo8
  apply BitVec.eq_of_getLsbD_eq
  intro i h
  rw [BitVec.getLsbD_extractLsb', BitVec.getLsbD_append]
  simp [h]

theorem word16_inj {h h' l l' : Byte} : word16 h l = word16 h' l' ↔ h = h' ∧ l = l' := by
  constructor
  · intro e
    exact ⟨by simpa using congrArg hi8 e, by simpa using congrArg lo8 e⟩
  · rintro ⟨rfl, rfl⟩
    rfl

namespace Machine

/-! ## Sequencing -/

@[simp] theorem andThen_next {α β : Type} (a : α) (k : α → Result β) : andThen (.next a) k = k a := rfl

@[simp] theorem andThen_fault {α β : Type} (f : Fault) (k : α → Result β) : andThen (.fault f) k = .fault f := rfl

@[simp] theorem andThen_refused {α β : Type} (q : Refusal) (k : α → Result β) :
    andThen (.refused q) k = .refused q := rfl

/-- Two parts in sequence answer a value just where the first does and the second does from it. -/
theorem andThen_eq_next {α β : Type} {r : Result α} {k : α → Result β} {b : β} :
    andThen r k = .next b ↔ ∃ a, r = .next a ∧ k a = .next b := by
  cases r <;> simp [andThen]

/-- The value answered, on the left. -/
theorem next_eq_next {α : Type} {a b : α} : (.next a : Result α) = .next b ↔ b = a := by
  simp [eq_comm]

/-! ## Accesses -/

theorem readByte_eq_next {a : Addr} {s : State} {v : Byte} :
    readByte a s = .next v ↔ (s.kindOf a = .ram ∨ s.kindOf a = .rom) ∧ v = s.peek a := by
  unfold readByte
  cases s.kindOf a <;> simp [eq_comm]

theorem readByte_of_ram {a : Addr} {s : State} (h : s.kindOf a = .ram) : readByte a s = .next (s.peek a) := by
  simp [readByte, h]

theorem writeByte_eq_next {a : Addr} {v : Byte} {s t : State} :
    writeByte a v s = .next t ↔ s.kindOf a = .ram ∧ t = s.poke a v := by
  unfold writeByte
  cases s.kindOf a <;> simp [eq_comm]

@[simp] theorem peek_poke_self (a : Addr) (v : Byte) (s : State) : (s.poke a v).peek a = v := by
  simp [State.peek]

theorem peek_poke_ne {a b : Addr} (v : Byte) (s : State) (h : b ≠ a) : (s.poke a v).peek b = s.peek b := by
  have : b.toNat ≠ a.toNat := fun e => h (BitVec.eq_of_toNat_eq e)
  simp [State.peek, Memory.read_write_ne _ _ _ _ this]

theorem wf_poke (a : Addr) (v : Byte) (s : State) (h : s.mem.wf = true) : (s.poke a v).mem.wf = true :=
  Memory.wf_write s.mem a.toNat v a.isLt h

/-- The kind of an address depends on the memory map alone. -/
theorem kindOf_eq {s t : State} (h : t.memMap = s.memMap) (a : Addr) : t.kindOf a = s.kindOf a := by
  simp [State.kindOf, h]

/-- The byte at an address depends on memory alone. -/
theorem peek_eq {s t : State} (h : t.mem = s.mem) (a : Addr) : t.peek a = s.peek a := by
  simp [State.peek, h]

/-- A read depends on memory and the memory map alone. -/
theorem readByte_eq {s t : State} (hm : t.mem = s.mem) (hk : t.memMap = s.memMap) (a : Addr) :
    readByte a t = readByte a s := by
  simp [readByte, kindOf_eq hk, peek_eq hm]

theorem read16_eq_next {a w : Addr} {s : State} :
    read16 a s = .next w ↔
      ∃ lo hi, readByte a s = .next lo ∧ readByte (a + 1) s = .next hi ∧ w = word16 hi lo := by
  simp only [read16, andThen_eq_next, next_eq_next, exists_and_left]

theorem read16ZP_eq_next {zp : Byte} {w : Addr} {s : State} :
    read16ZP zp s = .next w ↔
      ∃ lo hi, readByte (zeroPage zp) s = .next lo ∧ readByte (zeroPage (zp + 1)) s = .next hi ∧ w = word16 hi lo := by
  simp only [read16ZP, andThen_eq_next, next_eq_next, exists_and_left]

/-! ## The stack -/

theorem stackAddr_inj {a b : Byte} : stackAddr a = stackAddr b ↔ a = b := by
  simp [stackAddr, word16_inj]

/-- A push stores one byte and moves S down (10_state.md R15). -/
theorem push_eq_next {v : Byte} {s t : State} :
    push v s = .next t ↔ s.kindOf (stackAddr s.S) = .ram ∧ t = (s.poke (stackAddr s.S) v).setReg .s (s.S - 1) := by
  simp [push, andThen_eq_next, writeByte_eq_next, next_eq_next, and_assoc, -Host.Outcome.next.injEq]

/-- A pull reads one byte and moves S up (10_state.md R16). -/
theorem pull_eq_next {s : State} {p : Byte × State} :
    pull s = .next p ↔ readByte (stackAddr (s.S + 1)) s = .next p.1 ∧ p.2 = s.setReg .s (s.S + 1) := by
  obtain ⟨v, t⟩ := p
  simp only [pull, andThen_eq_next, next_eq_next, Prod.mk.injEq]
  constructor
  · rintro ⟨b, hb, rfl, rfl⟩
    exact ⟨hb, rfl⟩
  · rintro ⟨hb, rfl⟩
    exact ⟨v, hb, rfl, rfl⟩

theorem push16_eq_next {w : Addr} {s t : State} :
    push16 w s = .next t ↔ ∃ u, push (hi8 w) s = .next u ∧ push (lo8 w) u = .next t := by
  simp [push16, andThen_eq_next]

theorem pull16_eq_next {s : State} {p : Addr × State} :
    pull16 s = .next p ↔
      ∃ lo hi, pull s = .next lo ∧ pull lo.2 = .next hi ∧ p = (word16 hi.1 lo.1, hi.2) := by
  simp only [pull16, andThen_eq_next, next_eq_next, exists_and_left]

/-! ## Exceptions -/

/-- Taking an exception (49_misc.md R221, 60_exceptions.md R237). -/
theorem enterHandler_eq_next {ret vector : Addr} {b : Bool} {s t : State} :
    enterHandler ret b vector s = .next t ↔
      ∃ u p handler, push16 ret s = .next u ∧ push (packP b s) u = .next p ∧ read16 vector p = .next handler ∧
        t = ((p.setFlag .i true).setFlag .d false).setPC handler := by
  simp only [enterHandler, andThen_eq_next, Host.Outcome.next.injEq]
  constructor
  · rintro ⟨u, hu, p, hp, w, hw, rfl⟩
    exact ⟨u, p, w, hu, hp, hw, rfl⟩
  · rintro ⟨u, p, w, hu, hp, hw, rfl⟩
    exact ⟨u, hu, p, hp, w, hw, rfl⟩

/-- Returning from an exception (46_flow.md R184). -/
theorem returnFromHandler_eq_next {s t : State} :
    returnFromHandler s = .next t ↔
      ∃ p ret, pull s = .next p ∧ pull16 (p.2.unpackP p.1) = .next ret ∧ t = ret.2.setPC ret.1 := by
  simp only [returnFromHandler, andThen_eq_next, Host.Outcome.next.injEq]
  constructor
  · rintro ⟨p, hp, ret, hr, rfl⟩
    exact ⟨p, ret, hp, hr, rfl⟩
  · rintro ⟨p, ret, hp, hr, rfl⟩
    exact ⟨p, hp, ret, hr, rfl⟩

end Machine

end Sys2Proof
end

