-- ==== Sys2Proof/Laws/Operands.lean ====
section
/-! SUPPORT. For each shape of instruction over its operand, one lemma that says once what it does when it answers a next
state. -/

namespace Sys2Proof.Machine

theorem readSource_mem_eq_next {m : MemMode} {s : State} {v : Byte} :
    readSource (.mem m) s = .next v ↔ ∃ ea, effectiveAddress m s = .next ea ∧ readByte ea s = .next v := by
  simp [readSource, andThen_eq_next]

@[simp] theorem readSource_imm (v : Byte) (s : State) : readSource (.imm v) s = .next v := rfl

theorem readOp_eq_next {f : Byte → State → State} {src : Source} {s t : State} :
    readOp f src s = .next t ↔ ∃ v, readSource src s = .next v ∧ t = (f v s).advance src.size := by
  simp only [readOp, andThen_eq_next, next_eq_next]

theorem storeOp_eq_next {v : Byte} {m : MemMode} {s t : State} :
    storeOp v m s = .next t ↔
      ∃ ea, effectiveAddress m s = .next ea ∧ s.kindOf ea = .ram ∧ t = (s.poke ea v).advance m.size := by
  simp [storeOp, andThen_eq_next, writeByte_eq_next, next_eq_next, and_assoc, -Host.Outcome.next.injEq]

theorem modifyMem_eq_next {f : Byte → Byte} {g : Byte → State → State} {m : MemMode} {s t : State} :
    modifyMem f g m s = .next t ↔
      ∃ ea, effectiveAddress m s = .next ea ∧ s.kindOf ea = .ram ∧
        t = (g (s.peek ea) (s.poke ea (f (s.peek ea)))).advance m.size := by
  simp only [modifyMem, andThen_eq_next, readByte_eq_next, writeByte_eq_next, Host.Outcome.next.injEq]
  constructor
  · rintro ⟨ea, he, v, ⟨_, rfl⟩, u, ⟨hr, rfl⟩, rfl⟩
    exact ⟨ea, he, hr, rfl⟩
  · rintro ⟨ea, he, hr, rfl⟩
    exact ⟨ea, he, _, ⟨.inl hr, rfl⟩, _, ⟨hr, rfl⟩, rfl⟩

theorem impliedOp_eq_next {f : State → State} {s t : State} :
    impliedOp f s = .next t ↔ t = (f s).advance 1 := by
  simp only [impliedOp, next_eq_next]

theorem branchOp_eq_next {b : Bool} {d : Int} {s t : State} :
    branchOp b d s = .next t ↔ t = if b then s.setPC (branchTarget d s) else s.advance 2 := by
  simp only [branchOp, next_eq_next]

end Sys2Proof.Machine
end

