-- ==== Sys2Proof/Laws/Dispatch.lean ====
section
/-! SUPPORT. The 178 meanings seen by mnemonic and operand: `exec` is one shared operation per mnemonic, over whatever operand
the instruction has. A proof about all forms of an instruction rewrites with `exec_eq_meaningOf` and never splits on `Instr`. -/

namespace Sys2Proof.Machine

/-- An operation over the operand that an instruction only reads. -/
def onSource (op : Operand) (k : Source → State → Result State) (s : State) : Result State :=
  match op.source? with
  | some src => k src s
  | none => .next s

/-- An operation over A or a byte of memory. -/
def onPlace (op : Operand) (k : Place → State → Result State) (s : State) : Result State :=
  match op.place? with
  | some p => k p s
  | none => .next s

/-- An operation over an operand in memory. -/
def onMem (op : Operand) (k : MemMode → State → Result State) (s : State) : Result State :=
  match op with
  | .mem m => k m s
  | .imp | .acc | .imm _ | .rel _ | .ind _ | .iax _ => .next s

/-- An operation over a branch displacement. -/
def onRel (op : Operand) (k : Int → State → Result State) (s : State) : Result State :=
  match op with
  | .rel d => k d s
  | .imp | .acc | .imm _ | .mem _ | .ind _ | .iax _ => .next s

/-- An operation over a destination given as an address. -/
def onAbs (op : Operand) (k : Addr → State → Result State) (s : State) : Result State :=
  match op with
  | .mem (.abs a) => k a s
  | _ => .next s

/-- JMP over its three operands. -/
def jump (op : Operand) (s : State) : Result State :=
  match op with
  | .mem (.abs a) => execJmpAbs a s
  | .ind p => execJmpInd p s
  | .iax p => execJmpIax p s
  | _ => .next s

/-- The meaning of a mnemonic over an operand. -/
def meaningOf (m : Mnemonic) (op : Operand) (s : State) : Result State :=
  match m with
  | .lda => onSource op (load .a) s
  | .ldx => onSource op (load .x) s
  | .ldy => onSource op (load .y) s
  | .sta => onMem op (storeOp s.A) s
  | .stx => onMem op (storeOp s.X) s
  | .sty => onMem op (storeOp s.Y) s
  | .stz => onMem op (storeOp 0x00) s
  | .pha => execPha s
  | .phx => execPhx s
  | .phy => execPhy s
  | .php => execPhp s
  | .pla => execPla s
  | .plx => execPlx s
  | .ply => execPly s
  | .plp => execPlp s
  | .tsx => execTsx s
  | .txs => execTxs s
  | .ina => execIna s
  | .inx => execInx s
  | .iny => execIny s
  | .dea => execDea s
  | .dex => execDex s
  | .dey => execDey s
  | .inc => onMem op (stepMem (· + 1)) s
  | .dec => onMem op (stepMem (· - 1)) s
  | .asl => onPlace op (shiftOp shiftAsl) s
  | .lsr => onPlace op (shiftOp shiftLsr) s
  | .rol => onPlace op (shiftOp shiftRol) s
  | .ror => onPlace op (shiftOp shiftRor) s
  | .and => onSource op (logicOp (· &&& ·)) s
  | .ora => onSource op (logicOp (· ||| ·)) s
  | .eor => onSource op (logicOp (· ^^^ ·)) s
  | .bit => onSource op bitTest s
  | .cmp => onSource op (compare .a) s
  | .cpx => onSource op (compare .x) s
  | .cpy => onSource op (compare .y) s
  | .trb => onMem op (testAndChange (fun acc v => v &&& ~~~acc)) s
  | .tsb => onMem op (testAndChange (fun acc v => v ||| acc)) s
  | .adc => onSource op adc s
  | .sbc => onSource op sbc s
  | .jmp => jump op s
  | .jsr => onAbs op execJsr s
  | .rts => execRts s
  | .rti => execRti s
  | .bra => onRel op execBra s
  | .beq => onRel op execBeq s
  | .bne => onRel op execBne s
  | .bcc => onRel op execBcc s
  | .bcs => onRel op execBcs s
  | .bvc => onRel op execBvc s
  | .bvs => onRel op execBvs s
  | .bmi => onRel op execBmi s
  | .bpl => onRel op execBpl s
  | .clc => execClc s
  | .cld => execCld s
  | .cli => execCli s
  | .clv => execClv s
  | .sec => execSec s
  | .sed => execSed s
  | .sei => execSei s
  | .tax => execTax s
  | .tay => execTay s
  | .txa => execTxa s
  | .tya => execTya s
  | .nop => execNop s
  | .brk => execBrk s

/-- Every instruction means what its mnemonic means over its operand. -/
theorem exec_eq_meaningOf (i : Instr) (s : State) : exec i s = meaningOf i.mnemonic i.operand s := by
  cases i <;> rfl

/-- The shape of operand that each mnemonic works on. -/
def operandFits (m : Mnemonic) (op : Operand) : Bool :=
  match m with
  | .lda | .ldx | .ldy | .and | .ora | .eor | .bit | .cmp | .cpx | .cpy | .adc | .sbc => op.source?.isSome
  | .sta | .stx | .sty | .stz | .inc | .dec | .trb | .tsb =>
    match op with
    | .mem _ => true
    | _ => false
  | .asl | .lsr | .rol | .ror => op.place?.isSome
  | .ina | .dea => op == .acc
  | .bra | .beq | .bne | .bcc | .bcs | .bvc | .bvs | .bmi | .bpl =>
    match op with
    | .rel _ => true
    | _ => false
  | .jmp =>
    match op with
    | .mem (.abs _) | .ind _ | .iax _ => true
    | _ => false
  | .jsr =>
    match op with
    | .mem (.abs _) => true
    | _ => false
  | .pha | .phx | .phy | .php | .pla | .plx | .ply | .plp | .tsx | .txs | .inx | .iny | .dex | .dey | .rts | .rti
  | .clc | .cld | .cli | .clv | .sec | .sed | .sei | .tax | .tay | .txa | .tya | .nop | .brk => op == .imp

/-- Every instruction has an operand of its mnemonic's shape. -/
theorem operandFits_operand (i : Instr) : operandFits i.mnemonic i.operand = true := by
  cases i <;> rfl

theorem source?_size {op : Operand} {src : Source} (h : op.source? = some src) : src.size = op.format.size := by
  cases op <;> simp_all [Operand.source?] <;> subst h <;> rfl

theorem place?_size {op : Operand} {p : Place} (h : op.place? = some p) : p.size = op.format.size := by
  cases op <;> simp_all [Operand.place?] <;> subst h <;> rfl

end Sys2Proof.Machine
end

