-- ==== Sys2Proof/Laws/PerInstr.lean ====
section
/-! SUPPORT. A fact of every instruction as syntax: the opcode byte of its encoding selects the row with its mnemonic and its
format, and its encoding has the row's length (30_encoding.md R60, R61, R63). One lemma per constructor. -/

namespace Sys2Proof.Laws

/-- The row that the first byte of the encoding selects carries the instruction's own mnemonic and format, and the encoding
has as many bytes as the format. -/
def EncodingColumns.Statement (i : Instr) : Prop :=
  ((encode i).head?.bind findRow).map (fun r => (r.mnemonic, r.format)) = some (i.mnemonic, i.operand.format) ∧
    (encode i).length = i.size

theorem EncodingColumns.ldaImm (v : Byte) : EncodingColumns.Statement (.ldaImm v) := ⟨rfl, rfl⟩
theorem EncodingColumns.ldaZpg (zp : Byte) : EncodingColumns.Statement (.ldaZpg zp) := ⟨rfl, rfl⟩
theorem EncodingColumns.ldaZpx (zp : Byte) : EncodingColumns.Statement (.ldaZpx zp) := ⟨rfl, rfl⟩
theorem EncodingColumns.ldaAbs (a : Addr) : EncodingColumns.Statement (.ldaAbs a) := ⟨rfl, rfl⟩
theorem EncodingColumns.ldaAbx (a : Addr) : EncodingColumns.Statement (.ldaAbx a) := ⟨rfl, rfl⟩
theorem EncodingColumns.ldaAby (a : Addr) : EncodingColumns.Statement (.ldaAby a) := ⟨rfl, rfl⟩
theorem EncodingColumns.ldaIzx (zp : Byte) : EncodingColumns.Statement (.ldaIzx zp) := ⟨rfl, rfl⟩
theorem EncodingColumns.ldaIzy (zp : Byte) : EncodingColumns.Statement (.ldaIzy zp) := ⟨rfl, rfl⟩
theorem EncodingColumns.ldaIzp (zp : Byte) : EncodingColumns.Statement (.ldaIzp zp) := ⟨rfl, rfl⟩
theorem EncodingColumns.ldxImm (v : Byte) : EncodingColumns.Statement (.ldxImm v) := ⟨rfl, rfl⟩
theorem EncodingColumns.ldxZpg (zp : Byte) : EncodingColumns.Statement (.ldxZpg zp) := ⟨rfl, rfl⟩
theorem EncodingColumns.ldxZpy (zp : Byte) : EncodingColumns.Statement (.ldxZpy zp) := ⟨rfl, rfl⟩
theorem EncodingColumns.ldxAbs (a : Addr) : EncodingColumns.Statement (.ldxAbs a) := ⟨rfl, rfl⟩
theorem EncodingColumns.ldxAby (a : Addr) : EncodingColumns.Statement (.ldxAby a) := ⟨rfl, rfl⟩
theorem EncodingColumns.ldyImm (v : Byte) : EncodingColumns.Statement (.ldyImm v) := ⟨rfl, rfl⟩
theorem EncodingColumns.ldyZpg (zp : Byte) : EncodingColumns.Statement (.ldyZpg zp) := ⟨rfl, rfl⟩
theorem EncodingColumns.ldyZpx (zp : Byte) : EncodingColumns.Statement (.ldyZpx zp) := ⟨rfl, rfl⟩
theorem EncodingColumns.ldyAbs (a : Addr) : EncodingColumns.Statement (.ldyAbs a) := ⟨rfl, rfl⟩
theorem EncodingColumns.ldyAbx (a : Addr) : EncodingColumns.Statement (.ldyAbx a) := ⟨rfl, rfl⟩
theorem EncodingColumns.staZpg (zp : Byte) : EncodingColumns.Statement (.staZpg zp) := ⟨rfl, rfl⟩
theorem EncodingColumns.staZpx (zp : Byte) : EncodingColumns.Statement (.staZpx zp) := ⟨rfl, rfl⟩
theorem EncodingColumns.staAbs (a : Addr) : EncodingColumns.Statement (.staAbs a) := ⟨rfl, rfl⟩
theorem EncodingColumns.staAbx (a : Addr) : EncodingColumns.Statement (.staAbx a) := ⟨rfl, rfl⟩
theorem EncodingColumns.staAby (a : Addr) : EncodingColumns.Statement (.staAby a) := ⟨rfl, rfl⟩
theorem EncodingColumns.staIzx (zp : Byte) : EncodingColumns.Statement (.staIzx zp) := ⟨rfl, rfl⟩
theorem EncodingColumns.staIzy (zp : Byte) : EncodingColumns.Statement (.staIzy zp) := ⟨rfl, rfl⟩
theorem EncodingColumns.staIzp (zp : Byte) : EncodingColumns.Statement (.staIzp zp) := ⟨rfl, rfl⟩
theorem EncodingColumns.stxZpg (zp : Byte) : EncodingColumns.Statement (.stxZpg zp) := ⟨rfl, rfl⟩
theorem EncodingColumns.stxZpy (zp : Byte) : EncodingColumns.Statement (.stxZpy zp) := ⟨rfl, rfl⟩
theorem EncodingColumns.stxAbs (a : Addr) : EncodingColumns.Statement (.stxAbs a) := ⟨rfl, rfl⟩
theorem EncodingColumns.styZpg (zp : Byte) : EncodingColumns.Statement (.styZpg zp) := ⟨rfl, rfl⟩
theorem EncodingColumns.styZpx (zp : Byte) : EncodingColumns.Statement (.styZpx zp) := ⟨rfl, rfl⟩
theorem EncodingColumns.styAbs (a : Addr) : EncodingColumns.Statement (.styAbs a) := ⟨rfl, rfl⟩
theorem EncodingColumns.stzZpg (zp : Byte) : EncodingColumns.Statement (.stzZpg zp) := ⟨rfl, rfl⟩
theorem EncodingColumns.stzZpx (zp : Byte) : EncodingColumns.Statement (.stzZpx zp) := ⟨rfl, rfl⟩
theorem EncodingColumns.stzAbs (a : Addr) : EncodingColumns.Statement (.stzAbs a) := ⟨rfl, rfl⟩
theorem EncodingColumns.stzAbx (a : Addr) : EncodingColumns.Statement (.stzAbx a) := ⟨rfl, rfl⟩
theorem EncodingColumns.pha : EncodingColumns.Statement (.pha) := ⟨rfl, rfl⟩
theorem EncodingColumns.phx : EncodingColumns.Statement (.phx) := ⟨rfl, rfl⟩
theorem EncodingColumns.phy : EncodingColumns.Statement (.phy) := ⟨rfl, rfl⟩
theorem EncodingColumns.php : EncodingColumns.Statement (.php) := ⟨rfl, rfl⟩
theorem EncodingColumns.pla : EncodingColumns.Statement (.pla) := ⟨rfl, rfl⟩
theorem EncodingColumns.plx : EncodingColumns.Statement (.plx) := ⟨rfl, rfl⟩
theorem EncodingColumns.ply : EncodingColumns.Statement (.ply) := ⟨rfl, rfl⟩
theorem EncodingColumns.plp : EncodingColumns.Statement (.plp) := ⟨rfl, rfl⟩
theorem EncodingColumns.tsx : EncodingColumns.Statement (.tsx) := ⟨rfl, rfl⟩
theorem EncodingColumns.txs : EncodingColumns.Statement (.txs) := ⟨rfl, rfl⟩
theorem EncodingColumns.ina : EncodingColumns.Statement (.ina) := ⟨rfl, rfl⟩
theorem EncodingColumns.inx : EncodingColumns.Statement (.inx) := ⟨rfl, rfl⟩
theorem EncodingColumns.iny : EncodingColumns.Statement (.iny) := ⟨rfl, rfl⟩
theorem EncodingColumns.dea : EncodingColumns.Statement (.dea) := ⟨rfl, rfl⟩
theorem EncodingColumns.dex : EncodingColumns.Statement (.dex) := ⟨rfl, rfl⟩
theorem EncodingColumns.dey : EncodingColumns.Statement (.dey) := ⟨rfl, rfl⟩
theorem EncodingColumns.incZpg (zp : Byte) : EncodingColumns.Statement (.incZpg zp) := ⟨rfl, rfl⟩
theorem EncodingColumns.incZpx (zp : Byte) : EncodingColumns.Statement (.incZpx zp) := ⟨rfl, rfl⟩
theorem EncodingColumns.incAbs (a : Addr) : EncodingColumns.Statement (.incAbs a) := ⟨rfl, rfl⟩
theorem EncodingColumns.incAbx (a : Addr) : EncodingColumns.Statement (.incAbx a) := ⟨rfl, rfl⟩
theorem EncodingColumns.decZpg (zp : Byte) : EncodingColumns.Statement (.decZpg zp) := ⟨rfl, rfl⟩
theorem EncodingColumns.decZpx (zp : Byte) : EncodingColumns.Statement (.decZpx zp) := ⟨rfl, rfl⟩
theorem EncodingColumns.decAbs (a : Addr) : EncodingColumns.Statement (.decAbs a) := ⟨rfl, rfl⟩
theorem EncodingColumns.decAbx (a : Addr) : EncodingColumns.Statement (.decAbx a) := ⟨rfl, rfl⟩
theorem EncodingColumns.aslAcc : EncodingColumns.Statement (.aslAcc) := ⟨rfl, rfl⟩
theorem EncodingColumns.aslZpg (zp : Byte) : EncodingColumns.Statement (.aslZpg zp) := ⟨rfl, rfl⟩
theorem EncodingColumns.aslZpx (zp : Byte) : EncodingColumns.Statement (.aslZpx zp) := ⟨rfl, rfl⟩
theorem EncodingColumns.aslAbs (a : Addr) : EncodingColumns.Statement (.aslAbs a) := ⟨rfl, rfl⟩
theorem EncodingColumns.aslAbx (a : Addr) : EncodingColumns.Statement (.aslAbx a) := ⟨rfl, rfl⟩
theorem EncodingColumns.lsrAcc : EncodingColumns.Statement (.lsrAcc) := ⟨rfl, rfl⟩
theorem EncodingColumns.lsrZpg (zp : Byte) : EncodingColumns.Statement (.lsrZpg zp) := ⟨rfl, rfl⟩
theorem EncodingColumns.lsrZpx (zp : Byte) : EncodingColumns.Statement (.lsrZpx zp) := ⟨rfl, rfl⟩
theorem EncodingColumns.lsrAbs (a : Addr) : EncodingColumns.Statement (.lsrAbs a) := ⟨rfl, rfl⟩
theorem EncodingColumns.lsrAbx (a : Addr) : EncodingColumns.Statement (.lsrAbx a) := ⟨rfl, rfl⟩
theorem EncodingColumns.rolAcc : EncodingColumns.Statement (.rolAcc) := ⟨rfl, rfl⟩
theorem EncodingColumns.rolZpg (zp : Byte) : EncodingColumns.Statement (.rolZpg zp) := ⟨rfl, rfl⟩
theorem EncodingColumns.rolZpx (zp : Byte) : EncodingColumns.Statement (.rolZpx zp) := ⟨rfl, rfl⟩
theorem EncodingColumns.rolAbs (a : Addr) : EncodingColumns.Statement (.rolAbs a) := ⟨rfl, rfl⟩
theorem EncodingColumns.rolAbx (a : Addr) : EncodingColumns.Statement (.rolAbx a) := ⟨rfl, rfl⟩
theorem EncodingColumns.rorAcc : EncodingColumns.Statement (.rorAcc) := ⟨rfl, rfl⟩
theorem EncodingColumns.rorZpg (zp : Byte) : EncodingColumns.Statement (.rorZpg zp) := ⟨rfl, rfl⟩
theorem EncodingColumns.rorZpx (zp : Byte) : EncodingColumns.Statement (.rorZpx zp) := ⟨rfl, rfl⟩
theorem EncodingColumns.rorAbs (a : Addr) : EncodingColumns.Statement (.rorAbs a) := ⟨rfl, rfl⟩
theorem EncodingColumns.rorAbx (a : Addr) : EncodingColumns.Statement (.rorAbx a) := ⟨rfl, rfl⟩
theorem EncodingColumns.andImm (v : Byte) : EncodingColumns.Statement (.andImm v) := ⟨rfl, rfl⟩
theorem EncodingColumns.andZpg (zp : Byte) : EncodingColumns.Statement (.andZpg zp) := ⟨rfl, rfl⟩
theorem EncodingColumns.andZpx (zp : Byte) : EncodingColumns.Statement (.andZpx zp) := ⟨rfl, rfl⟩
theorem EncodingColumns.andAbs (a : Addr) : EncodingColumns.Statement (.andAbs a) := ⟨rfl, rfl⟩
theorem EncodingColumns.andAbx (a : Addr) : EncodingColumns.Statement (.andAbx a) := ⟨rfl, rfl⟩
theorem EncodingColumns.andAby (a : Addr) : EncodingColumns.Statement (.andAby a) := ⟨rfl, rfl⟩
theorem EncodingColumns.andIzx (zp : Byte) : EncodingColumns.Statement (.andIzx zp) := ⟨rfl, rfl⟩
theorem EncodingColumns.andIzy (zp : Byte) : EncodingColumns.Statement (.andIzy zp) := ⟨rfl, rfl⟩
theorem EncodingColumns.andIzp (zp : Byte) : EncodingColumns.Statement (.andIzp zp) := ⟨rfl, rfl⟩
theorem EncodingColumns.oraImm (v : Byte) : EncodingColumns.Statement (.oraImm v) := ⟨rfl, rfl⟩
theorem EncodingColumns.oraZpg (zp : Byte) : EncodingColumns.Statement (.oraZpg zp) := ⟨rfl, rfl⟩
theorem EncodingColumns.oraZpx (zp : Byte) : EncodingColumns.Statement (.oraZpx zp) := ⟨rfl, rfl⟩
theorem EncodingColumns.oraAbs (a : Addr) : EncodingColumns.Statement (.oraAbs a) := ⟨rfl, rfl⟩
theorem EncodingColumns.oraAbx (a : Addr) : EncodingColumns.Statement (.oraAbx a) := ⟨rfl, rfl⟩
theorem EncodingColumns.oraAby (a : Addr) : EncodingColumns.Statement (.oraAby a) := ⟨rfl, rfl⟩
theorem EncodingColumns.oraIzx (zp : Byte) : EncodingColumns.Statement (.oraIzx zp) := ⟨rfl, rfl⟩
theorem EncodingColumns.oraIzy (zp : Byte) : EncodingColumns.Statement (.oraIzy zp) := ⟨rfl, rfl⟩
theorem EncodingColumns.oraIzp (zp : Byte) : EncodingColumns.Statement (.oraIzp zp) := ⟨rfl, rfl⟩
theorem EncodingColumns.eorImm (v : Byte) : EncodingColumns.Statement (.eorImm v) := ⟨rfl, rfl⟩
theorem EncodingColumns.eorZpg (zp : Byte) : EncodingColumns.Statement (.eorZpg zp) := ⟨rfl, rfl⟩
theorem EncodingColumns.eorZpx (zp : Byte) : EncodingColumns.Statement (.eorZpx zp) := ⟨rfl, rfl⟩
theorem EncodingColumns.eorAbs (a : Addr) : EncodingColumns.Statement (.eorAbs a) := ⟨rfl, rfl⟩
theorem EncodingColumns.eorAbx (a : Addr) : EncodingColumns.Statement (.eorAbx a) := ⟨rfl, rfl⟩
theorem EncodingColumns.eorAby (a : Addr) : EncodingColumns.Statement (.eorAby a) := ⟨rfl, rfl⟩
theorem EncodingColumns.eorIzx (zp : Byte) : EncodingColumns.Statement (.eorIzx zp) := ⟨rfl, rfl⟩
theorem EncodingColumns.eorIzy (zp : Byte) : EncodingColumns.Statement (.eorIzy zp) := ⟨rfl, rfl⟩
theorem EncodingColumns.eorIzp (zp : Byte) : EncodingColumns.Statement (.eorIzp zp) := ⟨rfl, rfl⟩
theorem EncodingColumns.bitImm (v : Byte) : EncodingColumns.Statement (.bitImm v) := ⟨rfl, rfl⟩
theorem EncodingColumns.bitZpg (zp : Byte) : EncodingColumns.Statement (.bitZpg zp) := ⟨rfl, rfl⟩
theorem EncodingColumns.bitZpx (zp : Byte) : EncodingColumns.Statement (.bitZpx zp) := ⟨rfl, rfl⟩
theorem EncodingColumns.bitAbs (a : Addr) : EncodingColumns.Statement (.bitAbs a) := ⟨rfl, rfl⟩
theorem EncodingColumns.bitAbx (a : Addr) : EncodingColumns.Statement (.bitAbx a) := ⟨rfl, rfl⟩
theorem EncodingColumns.cmpImm (v : Byte) : EncodingColumns.Statement (.cmpImm v) := ⟨rfl, rfl⟩
theorem EncodingColumns.cmpZpg (zp : Byte) : EncodingColumns.Statement (.cmpZpg zp) := ⟨rfl, rfl⟩
theorem EncodingColumns.cmpZpx (zp : Byte) : EncodingColumns.Statement (.cmpZpx zp) := ⟨rfl, rfl⟩
theorem EncodingColumns.cmpAbs (a : Addr) : EncodingColumns.Statement (.cmpAbs a) := ⟨rfl, rfl⟩
theorem EncodingColumns.cmpAbx (a : Addr) : EncodingColumns.Statement (.cmpAbx a) := ⟨rfl, rfl⟩
theorem EncodingColumns.cmpAby (a : Addr) : EncodingColumns.Statement (.cmpAby a) := ⟨rfl, rfl⟩
theorem EncodingColumns.cmpIzx (zp : Byte) : EncodingColumns.Statement (.cmpIzx zp) := ⟨rfl, rfl⟩
theorem EncodingColumns.cmpIzy (zp : Byte) : EncodingColumns.Statement (.cmpIzy zp) := ⟨rfl, rfl⟩
theorem EncodingColumns.cmpIzp (zp : Byte) : EncodingColumns.Statement (.cmpIzp zp) := ⟨rfl, rfl⟩
theorem EncodingColumns.cpxImm (v : Byte) : EncodingColumns.Statement (.cpxImm v) := ⟨rfl, rfl⟩
theorem EncodingColumns.cpxZpg (zp : Byte) : EncodingColumns.Statement (.cpxZpg zp) := ⟨rfl, rfl⟩
theorem EncodingColumns.cpxAbs (a : Addr) : EncodingColumns.Statement (.cpxAbs a) := ⟨rfl, rfl⟩
theorem EncodingColumns.cpyImm (v : Byte) : EncodingColumns.Statement (.cpyImm v) := ⟨rfl, rfl⟩
theorem EncodingColumns.cpyZpg (zp : Byte) : EncodingColumns.Statement (.cpyZpg zp) := ⟨rfl, rfl⟩
theorem EncodingColumns.cpyAbs (a : Addr) : EncodingColumns.Statement (.cpyAbs a) := ⟨rfl, rfl⟩
theorem EncodingColumns.trbZpg (zp : Byte) : EncodingColumns.Statement (.trbZpg zp) := ⟨rfl, rfl⟩
theorem EncodingColumns.trbAbs (a : Addr) : EncodingColumns.Statement (.trbAbs a) := ⟨rfl, rfl⟩
theorem EncodingColumns.tsbZpg (zp : Byte) : EncodingColumns.Statement (.tsbZpg zp) := ⟨rfl, rfl⟩
theorem EncodingColumns.tsbAbs (a : Addr) : EncodingColumns.Statement (.tsbAbs a) := ⟨rfl, rfl⟩
theorem EncodingColumns.adcImm (v : Byte) : EncodingColumns.Statement (.adcImm v) := ⟨rfl, rfl⟩
theorem EncodingColumns.adcZpg (zp : Byte) : EncodingColumns.Statement (.adcZpg zp) := ⟨rfl, rfl⟩
theorem EncodingColumns.adcZpx (zp : Byte) : EncodingColumns.Statement (.adcZpx zp) := ⟨rfl, rfl⟩
theorem EncodingColumns.adcAbs (a : Addr) : EncodingColumns.Statement (.adcAbs a) := ⟨rfl, rfl⟩
theorem EncodingColumns.adcAbx (a : Addr) : EncodingColumns.Statement (.adcAbx a) := ⟨rfl, rfl⟩
theorem EncodingColumns.adcAby (a : Addr) : EncodingColumns.Statement (.adcAby a) := ⟨rfl, rfl⟩
theorem EncodingColumns.adcIzx (zp : Byte) : EncodingColumns.Statement (.adcIzx zp) := ⟨rfl, rfl⟩
theorem EncodingColumns.adcIzy (zp : Byte) : EncodingColumns.Statement (.adcIzy zp) := ⟨rfl, rfl⟩
theorem EncodingColumns.adcIzp (zp : Byte) : EncodingColumns.Statement (.adcIzp zp) := ⟨rfl, rfl⟩
theorem EncodingColumns.sbcImm (v : Byte) : EncodingColumns.Statement (.sbcImm v) := ⟨rfl, rfl⟩
theorem EncodingColumns.sbcZpg (zp : Byte) : EncodingColumns.Statement (.sbcZpg zp) := ⟨rfl, rfl⟩
theorem EncodingColumns.sbcZpx (zp : Byte) : EncodingColumns.Statement (.sbcZpx zp) := ⟨rfl, rfl⟩
theorem EncodingColumns.sbcAbs (a : Addr) : EncodingColumns.Statement (.sbcAbs a) := ⟨rfl, rfl⟩
theorem EncodingColumns.sbcAbx (a : Addr) : EncodingColumns.Statement (.sbcAbx a) := ⟨rfl, rfl⟩
theorem EncodingColumns.sbcAby (a : Addr) : EncodingColumns.Statement (.sbcAby a) := ⟨rfl, rfl⟩
theorem EncodingColumns.sbcIzx (zp : Byte) : EncodingColumns.Statement (.sbcIzx zp) := ⟨rfl, rfl⟩
theorem EncodingColumns.sbcIzy (zp : Byte) : EncodingColumns.Statement (.sbcIzy zp) := ⟨rfl, rfl⟩
theorem EncodingColumns.sbcIzp (zp : Byte) : EncodingColumns.Statement (.sbcIzp zp) := ⟨rfl, rfl⟩
theorem EncodingColumns.jmpAbs (a : Addr) : EncodingColumns.Statement (.jmpAbs a) := ⟨rfl, rfl⟩
theorem EncodingColumns.jmpInd (p : Addr) : EncodingColumns.Statement (.jmpInd p) := ⟨rfl, rfl⟩
theorem EncodingColumns.jmpIax (p : Addr) : EncodingColumns.Statement (.jmpIax p) := ⟨rfl, rfl⟩
theorem EncodingColumns.jsr (a : Addr) : EncodingColumns.Statement (.jsr a) := ⟨rfl, rfl⟩
theorem EncodingColumns.rts : EncodingColumns.Statement (.rts) := ⟨rfl, rfl⟩
theorem EncodingColumns.rti : EncodingColumns.Statement (.rti) := ⟨rfl, rfl⟩
theorem EncodingColumns.bra (d : Int) : EncodingColumns.Statement (.bra d) := ⟨rfl, rfl⟩
theorem EncodingColumns.beq (d : Int) : EncodingColumns.Statement (.beq d) := ⟨rfl, rfl⟩
theorem EncodingColumns.bne (d : Int) : EncodingColumns.Statement (.bne d) := ⟨rfl, rfl⟩
theorem EncodingColumns.bcc (d : Int) : EncodingColumns.Statement (.bcc d) := ⟨rfl, rfl⟩
theorem EncodingColumns.bcs (d : Int) : EncodingColumns.Statement (.bcs d) := ⟨rfl, rfl⟩
theorem EncodingColumns.bvc (d : Int) : EncodingColumns.Statement (.bvc d) := ⟨rfl, rfl⟩
theorem EncodingColumns.bvs (d : Int) : EncodingColumns.Statement (.bvs d) := ⟨rfl, rfl⟩
theorem EncodingColumns.bmi (d : Int) : EncodingColumns.Statement (.bmi d) := ⟨rfl, rfl⟩
theorem EncodingColumns.bpl (d : Int) : EncodingColumns.Statement (.bpl d) := ⟨rfl, rfl⟩
theorem EncodingColumns.clc : EncodingColumns.Statement (.clc) := ⟨rfl, rfl⟩
theorem EncodingColumns.cld : EncodingColumns.Statement (.cld) := ⟨rfl, rfl⟩
theorem EncodingColumns.cli : EncodingColumns.Statement (.cli) := ⟨rfl, rfl⟩
theorem EncodingColumns.clv : EncodingColumns.Statement (.clv) := ⟨rfl, rfl⟩
theorem EncodingColumns.sec : EncodingColumns.Statement (.sec) := ⟨rfl, rfl⟩
theorem EncodingColumns.sed : EncodingColumns.Statement (.sed) := ⟨rfl, rfl⟩
theorem EncodingColumns.sei : EncodingColumns.Statement (.sei) := ⟨rfl, rfl⟩
theorem EncodingColumns.tax : EncodingColumns.Statement (.tax) := ⟨rfl, rfl⟩
theorem EncodingColumns.tay : EncodingColumns.Statement (.tay) := ⟨rfl, rfl⟩
theorem EncodingColumns.txa : EncodingColumns.Statement (.txa) := ⟨rfl, rfl⟩
theorem EncodingColumns.tya : EncodingColumns.Statement (.tya) := ⟨rfl, rfl⟩
theorem EncodingColumns.nop : EncodingColumns.Statement (.nop) := ⟨rfl, rfl⟩
theorem EncodingColumns.brk : EncodingColumns.Statement (.brk) := ⟨rfl, rfl⟩

end Sys2Proof.Laws
end

