-- ==== Sys2Proof/Laws/Step.lean ====
section
/-! SUPPORT. What a fetch and a step can do, said once. -/

namespace Sys2Proof.Machine

/-- A fetch that answers has read an opcode byte with a row, and as many operand bytes as its format has
(30_encoding.md R60). -/
theorem fetch_eq_next {s : State} {i : Instr} (h : fetch s = .next i) :
    ∃ row, readByte s.PC s = .next (s.peek s.PC) ∧ findRow (s.peek s.PC) = some row ∧
      ((row.format.size = 1 ∧ i = row.build 0 0) ∨
        (row.format.size = 2 ∧ i = row.build (s.peek (s.PC + 1)) 0) ∨
        (row.format.size = 3 ∧ i = row.build (s.peek (s.PC + 1)) (s.peek (s.PC + 2)))) := by
  simp only [fetch, andThen_eq_next] at h
  obtain ⟨b, hb, h⟩ := h
  have hp := (readByte_eq_next.1 hb).2
  subst hp
  cases hrow : findRow (s.peek s.PC) with
  | none => simp [hrow] at h
  | some row =>
    refine ⟨row, hb, rfl, ?_⟩
    simp only [hrow] at h
    cases hf : row.format <;> simp [hf, Format.size, andThen_eq_next, readByte_eq_next] at h ⊢ <;> aesop

/-- What comes next at a boundary (60_exceptions.md R233, R238). -/
theorem boundary_cases (s : State) :
    (resetAsserted s = true ∧ boundary s = .reset (sampleEnv s)) ∨
      (resetAsserted s = false ∧ requestPresent (sampleEnv s) = true ∧
        boundary s = if Config.honours s.draws then takenRequest (sampleEnv s).nextDraw
          else .instruction (sampleEnv s).nextDraw) ∨
      (resetAsserted s = false ∧ requestPresent (sampleEnv s) = false ∧ boundary s = .instruction (sampleEnv s)) := by
  cases hr : resetAsserted s <;> cases hq : requestPresent (sampleEnv s) <;> simp [boundary, hr, hq]

/-- A step from a boundary where an instruction comes next is that instruction's. -/
theorem step_of_instruction {s t : State} (h : boundary s = .instruction t) : step s = runInstruction t := by
  simp [step, h]

theorem runInstruction_eq_next {s t : State} :
    runInstruction s = .next t ↔ ∃ i, fetch s = .next i ∧ exec i s = .next t := by
  simp [runInstruction, andThen_eq_next]

end Sys2Proof.Machine
end

