-- ==== Sys2Proof/Tests/Slice0.lean ====
section
/-! SUPPORT. The model's own tests. Every expected value is the spec's: the opcode grid of 30_encoding.md section 4, the test vectors
of 95_test_vectors.md (named in each test), the rules named elsewhere. The last part shows, for each statement with hypotheses,
a state and operands that meet them. -/

open Sys2Proof Sys2Proof.Machine

namespace Sys2Proof.Tests

/-! ## Helpers -/

/-- The state every vector of 95_test_vectors.md starts from. -/
def start : State := { State.reset with S := 0xFF, PC := 0x0200, I := false }

/-- The state with bytes of memory set. -/
def put (cells : List (Addr × Byte)) (s : State) : State := cells.foldl (fun t c => t.poke c.1 c.2) s

/-- The state with the bytes of one instruction at PC. -/
def code (bytes : List Byte) (s : State) : State :=
  match bytes with
  | [b0] => put [(s.PC, b0)] s
  | [b0, b1] => put [(s.PC, b0), (s.PC + 1, b1)] s
  | [b0, b1, b2] => put [(s.PC, b0), (s.PC + 1, b1), (s.PC + 2, b2)] s
  | _ => s

/-- The step answers the state changed by `f` and in the listed bytes, and in nothing else. -/
def gives (s : State) (f : State → State) (cells : List (Addr × Byte)) : Bool :=
  match step s with
  | .next t => decide (t = put cells (f s))
  | _ => false

/-- The same of a decimal step, whose V is a free value. -/
def givesAnyV (s : State) (f : State → State) : Bool :=
  match step s with
  | .next t => decide ({ t with V := false } = { (f s).nextDraw with V := false })
  | _ => false

/-- The same of a decimal step that leaves A, N, V, Z and C free. -/
def givesAnySum (s : State) (f : State → State) : Bool :=
  match step s with
  | .next t => decide (t.setSum (addBinary 0 0 false) = (f s).nextDraw.setSum (addBinary 0 0 false))
  | _ => false

/-- The run is refused. -/
def refuses (r : Result State) (q : Refusal) : Bool :=
  match r with
  | .refused p => decide (p = q)
  | _ => false

/-! ## Decoding: the 178 cells of the opcode grid (30_encoding.md section 4, the grid under R63) -/

theorem test_decode_row_0x :
    decode [0x00] = .ok (.brk, []) ∧
    decode [0x01, 0x8C] = .ok (.oraIzx 0x8C, []) ∧
    decode [0x04, 0x8C] = .ok (.tsbZpg 0x8C, []) ∧
    decode [0x05, 0x8C] = .ok (.oraZpg 0x8C, []) ∧
    decode [0x06, 0x8C] = .ok (.aslZpg 0x8C, []) ∧
    decode [0x08] = .ok (.php, []) ∧
    decode [0x09, 0x8C] = .ok (.oraImm 0x8C, []) ∧
    decode [0x0A] = .ok (.aslAcc, []) ∧
    decode [0x0C, 0x34, 0x92] = .ok (.tsbAbs 0x9234, []) ∧
    decode [0x0D, 0x34, 0x92] = .ok (.oraAbs 0x9234, []) ∧
    decode [0x0E, 0x34, 0x92] = .ok (.aslAbs 0x9234, []) :=
  ⟨rfl, rfl, rfl, rfl, rfl, rfl, rfl, rfl, rfl, rfl, rfl⟩

theorem test_decode_row_1x :
    decode [0x10, 0x80] = .ok (.bpl (-128), []) ∧
    decode [0x11, 0x8C] = .ok (.oraIzy 0x8C, []) ∧
    decode [0x12, 0x8C] = .ok (.oraIzp 0x8C, []) ∧
    decode [0x14, 0x8C] = .ok (.trbZpg 0x8C, []) ∧
    decode [0x15, 0x8C] = .ok (.oraZpx 0x8C, []) ∧
    decode [0x16, 0x8C] = .ok (.aslZpx 0x8C, []) ∧
    decode [0x18] = .ok (.clc, []) ∧
    decode [0x19, 0x34, 0x92] = .ok (.oraAby 0x9234, []) ∧
    decode [0x1A] = .ok (.ina, []) ∧
    decode [0x1C, 0x34, 0x92] = .ok (.trbAbs 0x9234, []) ∧
    decode [0x1D, 0x34, 0x92] = .ok (.oraAbx 0x9234, []) ∧
    decode [0x1E, 0x34, 0x92] = .ok (.aslAbx 0x9234, []) :=
  ⟨rfl, rfl, rfl, rfl, rfl, rfl, rfl, rfl, rfl, rfl, rfl, rfl⟩

theorem test_decode_row_2x :
    decode [0x20, 0x34, 0x92] = .ok (.jsr 0x9234, []) ∧
    decode [0x21, 0x8C] = .ok (.andIzx 0x8C, []) ∧
    decode [0x24, 0x8C] = .ok (.bitZpg 0x8C, []) ∧
    decode [0x25, 0x8C] = .ok (.andZpg 0x8C, []) ∧
    decode [0x26, 0x8C] = .ok (.rolZpg 0x8C, []) ∧
    decode [0x28] = .ok (.plp, []) ∧
    decode [0x29, 0x8C] = .ok (.andImm 0x8C, []) ∧
    decode [0x2A] = .ok (.rolAcc, []) ∧
    decode [0x2C, 0x34, 0x92] = .ok (.bitAbs 0x9234, []) ∧
    decode [0x2D, 0x34, 0x92] = .ok (.andAbs 0x9234, []) ∧
    decode [0x2E, 0x34, 0x92] = .ok (.rolAbs 0x9234, []) :=
  ⟨rfl, rfl, rfl, rfl, rfl, rfl, rfl, rfl, rfl, rfl, rfl⟩

theorem test_decode_row_3x :
    decode [0x30, 0x80] = .ok (.bmi (-128), []) ∧
    decode [0x31, 0x8C] = .ok (.andIzy 0x8C, []) ∧
    decode [0x32, 0x8C] = .ok (.andIzp 0x8C, []) ∧
    decode [0x34, 0x8C] = .ok (.bitZpx 0x8C, []) ∧
    decode [0x35, 0x8C] = .ok (.andZpx 0x8C, []) ∧
    decode [0x36, 0x8C] = .ok (.rolZpx 0x8C, []) ∧
    decode [0x38] = .ok (.sec, []) ∧
    decode [0x39, 0x34, 0x92] = .ok (.andAby 0x9234, []) ∧
    decode [0x3A] = .ok (.dea, []) ∧
    decode [0x3C, 0x34, 0x92] = .ok (.bitAbx 0x9234, []) ∧
    decode [0x3D, 0x34, 0x92] = .ok (.andAbx 0x9234, []) ∧
    decode [0x3E, 0x34, 0x92] = .ok (.rolAbx 0x9234, []) :=
  ⟨rfl, rfl, rfl, rfl, rfl, rfl, rfl, rfl, rfl, rfl, rfl, rfl⟩

theorem test_decode_row_4x :
    decode [0x40] = .ok (.rti, []) ∧
    decode [0x41, 0x8C] = .ok (.eorIzx 0x8C, []) ∧
    decode [0x45, 0x8C] = .ok (.eorZpg 0x8C, []) ∧
    decode [0x46, 0x8C] = .ok (.lsrZpg 0x8C, []) ∧
    decode [0x48] = .ok (.pha, []) ∧
    decode [0x49, 0x8C] = .ok (.eorImm 0x8C, []) ∧
    decode [0x4A] = .ok (.lsrAcc, []) ∧
    decode [0x4C, 0x34, 0x92] = .ok (.jmpAbs 0x9234, []) ∧
    decode [0x4D, 0x34, 0x92] = .ok (.eorAbs 0x9234, []) ∧
    decode [0x4E, 0x34, 0x92] = .ok (.lsrAbs 0x9234, []) :=
  ⟨rfl, rfl, rfl, rfl, rfl, rfl, rfl, rfl, rfl, rfl⟩

theorem test_decode_row_5x :
    decode [0x50, 0x80] = .ok (.bvc (-128), []) ∧
    decode [0x51, 0x8C] = .ok (.eorIzy 0x8C, []) ∧
    decode [0x52, 0x8C] = .ok (.eorIzp 0x8C, []) ∧
    decode [0x55, 0x8C] = .ok (.eorZpx 0x8C, []) ∧
    decode [0x56, 0x8C] = .ok (.lsrZpx 0x8C, []) ∧
    decode [0x58] = .ok (.cli, []) ∧
    decode [0x59, 0x34, 0x92] = .ok (.eorAby 0x9234, []) ∧
    decode [0x5A] = .ok (.phy, []) ∧
    decode [0x5D, 0x34, 0x92] = .ok (.eorAbx 0x9234, []) ∧
    decode [0x5E, 0x34, 0x92] = .ok (.lsrAbx 0x9234, []) :=
  ⟨rfl, rfl, rfl, rfl, rfl, rfl, rfl, rfl, rfl, rfl⟩

theorem test_decode_row_6x :
    decode [0x60] = .ok (.rts, []) ∧
    decode [0x61, 0x8C] = .ok (.adcIzx 0x8C, []) ∧
    decode [0x64, 0x8C] = .ok (.stzZpg 0x8C, []) ∧
    decode [0x65, 0x8C] = .ok (.adcZpg 0x8C, []) ∧
    decode [0x66, 0x8C] = .ok (.rorZpg 0x8C, []) ∧
    decode [0x68] = .ok (.pla, []) ∧
    decode [0x69, 0x8C] = .ok (.adcImm 0x8C, []) ∧
    decode [0x6A] = .ok (.rorAcc, []) ∧
    decode [0x6C, 0x34, 0x92] = .ok (.jmpInd 0x9234, []) ∧
    decode [0x6D, 0x34, 0x92] = .ok (.adcAbs 0x9234, []) ∧
    decode [0x6E, 0x34, 0x92] = .ok (.rorAbs 0x9234, []) :=
  ⟨rfl, rfl, rfl, rfl, rfl, rfl, rfl, rfl, rfl, rfl, rfl⟩

theorem test_decode_row_7x :
    decode [0x70, 0x80] = .ok (.bvs (-128), []) ∧
    decode [0x71, 0x8C] = .ok (.adcIzy 0x8C, []) ∧
    decode [0x72, 0x8C] = .ok (.adcIzp 0x8C, []) ∧
    decode [0x74, 0x8C] = .ok (.stzZpx 0x8C, []) ∧
    decode [0x75, 0x8C] = .ok (.adcZpx 0x8C, []) ∧
    decode [0x76, 0x8C] = .ok (.rorZpx 0x8C, []) ∧
    decode [0x78] = .ok (.sei, []) ∧
    decode [0x79, 0x34, 0x92] = .ok (.adcAby 0x9234, []) ∧
    decode [0x7A] = .ok (.ply, []) ∧
    decode [0x7C, 0x34, 0x92] = .ok (.jmpIax 0x9234, []) ∧
    decode [0x7D, 0x34, 0x92] = .ok (.adcAbx 0x9234, []) ∧
    decode [0x7E, 0x34, 0x92] = .ok (.rorAbx 0x9234, []) :=
  ⟨rfl, rfl, rfl, rfl, rfl, rfl, rfl, rfl, rfl, rfl, rfl, rfl⟩

theorem test_decode_row_8x :
    decode [0x80, 0x80] = .ok (.bra (-128), []) ∧
    decode [0x81, 0x8C] = .ok (.staIzx 0x8C, []) ∧
    decode [0x84, 0x8C] = .ok (.styZpg 0x8C, []) ∧
    decode [0x85, 0x8C] = .ok (.staZpg 0x8C, []) ∧
    decode [0x86, 0x8C] = .ok (.stxZpg 0x8C, []) ∧
    decode [0x88] = .ok (.dey, []) ∧
    decode [0x89, 0x8C] = .ok (.bitImm 0x8C, []) ∧
    decode [0x8A] = .ok (.txa, []) ∧
    decode [0x8C, 0x34, 0x92] = .ok (.styAbs 0x9234, []) ∧
    decode [0x8D, 0x34, 0x92] = .ok (.staAbs 0x9234, []) ∧
    decode [0x8E, 0x34, 0x92] = .ok (.stxAbs 0x9234, []) :=
  ⟨rfl, rfl, rfl, rfl, rfl, rfl, rfl, rfl, rfl, rfl, rfl⟩

theorem test_decode_row_9x :
    decode [0x90, 0x80] = .ok (.bcc (-128), []) ∧
    decode [0x91, 0x8C] = .ok (.staIzy 0x8C, []) ∧
    decode [0x92, 0x8C] = .ok (.staIzp 0x8C, []) ∧
    decode [0x94, 0x8C] = .ok (.styZpx 0x8C, []) ∧
    decode [0x95, 0x8C] = .ok (.staZpx 0x8C, []) ∧
    decode [0x96, 0x8C] = .ok (.stxZpy 0x8C, []) ∧
    decode [0x98] = .ok (.tya, []) ∧
    decode [0x99, 0x34, 0x92] = .ok (.staAby 0x9234, []) ∧
    decode [0x9A] = .ok (.txs, []) ∧
    decode [0x9C, 0x34, 0x92] = .ok (.stzAbs 0x9234, []) ∧
    decode [0x9D, 0x34, 0x92] = .ok (.staAbx 0x9234, []) ∧
    decode [0x9E, 0x34, 0x92] = .ok (.stzAbx 0x9234, []) :=
  ⟨rfl, rfl, rfl, rfl, rfl, rfl, rfl, rfl, rfl, rfl, rfl, rfl⟩

theorem test_decode_row_Ax :
    decode [0xA0, 0x8C] = .ok (.ldyImm 0x8C, []) ∧
    decode [0xA1, 0x8C] = .ok (.ldaIzx 0x8C, []) ∧
    decode [0xA2, 0x8C] = .ok (.ldxImm 0x8C, []) ∧
    decode [0xA4, 0x8C] = .ok (.ldyZpg 0x8C, []) ∧
    decode [0xA5, 0x8C] = .ok (.ldaZpg 0x8C, []) ∧
    decode [0xA6, 0x8C] = .ok (.ldxZpg 0x8C, []) ∧
    decode [0xA8] = .ok (.tay, []) ∧
    decode [0xA9, 0x8C] = .ok (.ldaImm 0x8C, []) ∧
    decode [0xAA] = .ok (.tax, []) ∧
    decode [0xAC, 0x34, 0x92] = .ok (.ldyAbs 0x9234, []) ∧
    decode [0xAD, 0x34, 0x92] = .ok (.ldaAbs 0x9234, []) ∧
    decode [0xAE, 0x34, 0x92] = .ok (.ldxAbs 0x9234, []) :=
  ⟨rfl, rfl, rfl, rfl, rfl, rfl, rfl, rfl, rfl, rfl, rfl, rfl⟩

theorem test_decode_row_Bx :
    decode [0xB0, 0x80] = .ok (.bcs (-128), []) ∧
    decode [0xB1, 0x8C] = .ok (.ldaIzy 0x8C, []) ∧
    decode [0xB2, 0x8C] = .ok (.ldaIzp 0x8C, []) ∧
    decode [0xB4, 0x8C] = .ok (.ldyZpx 0x8C, []) ∧
    decode [0xB5, 0x8C] = .ok (.ldaZpx 0x8C, []) ∧
    decode [0xB6, 0x8C] = .ok (.ldxZpy 0x8C, []) ∧
    decode [0xB8] = .ok (.clv, []) ∧
    decode [0xB9, 0x34, 0x92] = .ok (.ldaAby 0x9234, []) ∧
    decode [0xBA] = .ok (.tsx, []) ∧
    decode [0xBC, 0x34, 0x92] = .ok (.ldyAbx 0x9234, []) ∧
    decode [0xBD, 0x34, 0x92] = .ok (.ldaAbx 0x9234, []) ∧
    decode [0xBE, 0x34, 0x92] = .ok (.ldxAby 0x9234, []) :=
  ⟨rfl, rfl, rfl, rfl, rfl, rfl, rfl, rfl, rfl, rfl, rfl, rfl⟩

theorem test_decode_row_Cx :
    decode [0xC0, 0x8C] = .ok (.cpyImm 0x8C, []) ∧
    decode [0xC1, 0x8C] = .ok (.cmpIzx 0x8C, []) ∧
    decode [0xC4, 0x8C] = .ok (.cpyZpg 0x8C, []) ∧
    decode [0xC5, 0x8C] = .ok (.cmpZpg 0x8C, []) ∧
    decode [0xC6, 0x8C] = .ok (.decZpg 0x8C, []) ∧
    decode [0xC8] = .ok (.iny, []) ∧
    decode [0xC9, 0x8C] = .ok (.cmpImm 0x8C, []) ∧
    decode [0xCA] = .ok (.dex, []) ∧
    decode [0xCC, 0x34, 0x92] = .ok (.cpyAbs 0x9234, []) ∧
    decode [0xCD, 0x34, 0x92] = .ok (.cmpAbs 0x9234, []) ∧
    decode [0xCE, 0x34, 0x92] = .ok (.decAbs 0x9234, []) :=
  ⟨rfl, rfl, rfl, rfl, rfl, rfl, rfl, rfl, rfl, rfl, rfl⟩

theorem test_decode_row_Dx :
    decode [0xD0, 0x80] = .ok (.bne (-128), []) ∧
    decode [0xD1, 0x8C] = .ok (.cmpIzy 0x8C, []) ∧
    decode [0xD2, 0x8C] = .ok (.cmpIzp 0x8C, []) ∧
    decode [0xD5, 0x8C] = .ok (.cmpZpx 0x8C, []) ∧
    decode [0xD6, 0x8C] = .ok (.decZpx 0x8C, []) ∧
    decode [0xD8] = .ok (.cld, []) ∧
    decode [0xD9, 0x34, 0x92] = .ok (.cmpAby 0x9234, []) ∧
    decode [0xDA] = .ok (.phx, []) ∧
    decode [0xDD, 0x34, 0x92] = .ok (.cmpAbx 0x9234, []) ∧
    decode [0xDE, 0x34, 0x92] = .ok (.decAbx 0x9234, []) :=
  ⟨rfl, rfl, rfl, rfl, rfl, rfl, rfl, rfl, rfl, rfl⟩

theorem test_decode_row_Ex :
    decode [0xE0, 0x8C] = .ok (.cpxImm 0x8C, []) ∧
    decode [0xE1, 0x8C] = .ok (.sbcIzx 0x8C, []) ∧
    decode [0xE4, 0x8C] = .ok (.cpxZpg 0x8C, []) ∧
    decode [0xE5, 0x8C] = .ok (.sbcZpg 0x8C, []) ∧
    decode [0xE6, 0x8C] = .ok (.incZpg 0x8C, []) ∧
    decode [0xE8] = .ok (.inx, []) ∧
    decode [0xE9, 0x8C] = .ok (.sbcImm 0x8C, []) ∧
    decode [0xEA] = .ok (.nop, []) ∧
    decode [0xEC, 0x34, 0x92] = .ok (.cpxAbs 0x9234, []) ∧
    decode [0xED, 0x34, 0x92] = .ok (.sbcAbs 0x9234, []) ∧
    decode [0xEE, 0x34, 0x92] = .ok (.incAbs 0x9234, []) :=
  ⟨rfl, rfl, rfl, rfl, rfl, rfl, rfl, rfl, rfl, rfl, rfl⟩

theorem test_decode_row_Fx :
    decode [0xF0, 0x80] = .ok (.beq (-128), []) ∧
    decode [0xF1, 0x8C] = .ok (.sbcIzy 0x8C, []) ∧
    decode [0xF2, 0x8C] = .ok (.sbcIzp 0x8C, []) ∧
    decode [0xF5, 0x8C] = .ok (.sbcZpx 0x8C, []) ∧
    decode [0xF6, 0x8C] = .ok (.incZpx 0x8C, []) ∧
    decode [0xF8] = .ok (.sed, []) ∧
    decode [0xF9, 0x34, 0x92] = .ok (.sbcAby 0x9234, []) ∧
    decode [0xFA] = .ok (.plx, []) ∧
    decode [0xFD, 0x34, 0x92] = .ok (.sbcAbx 0x9234, []) ∧
    decode [0xFE, 0x34, 0x92] = .ok (.incAbx 0x9234, []) :=
  ⟨rfl, rfl, rfl, rfl, rfl, rfl, rfl, rfl, rfl, rfl⟩

/-- Operand bytes at the ends of their range, and the bytes after the instruction (30_encoding.md R79, R61). -/
theorem test_decode_branch_ends :
    decode [0xD0, 0x7F] = .ok (.bne 127, []) ∧ decode [0xD0, 0xFF] = .ok (.bne (-1), []) ∧
    decode [0xD0, 0x00, 0xEA] = .ok (.bne 0, [0xEA]) :=
  ⟨rfl, rfl, rfl⟩

/-- What does not decode is rejected by name (30_encoding.md R66). -/
theorem test_decode_rejects :
    (decode [0x02, 0x00] = .error (.undefinedOpcode 0x02)) ∧ (decode [0xFF] = .error (.undefinedOpcode 0xFF)) ∧
    (decode [0xAD, 0x34] = .error .truncated) ∧ (decode [] = .error .truncated) :=
  ⟨rfl, rfl, rfl, rfl⟩

/-- The table's numbering: the second byte is bits 15 to 8 (spec/opcode_table.json). -/
theorem test_table_word :
    decodeTableWord 16 0x8069 = some (.adcImm 0x80) ∧ decodeTableWord 8 0x69 = some (.adcImm 0x00) ∧
    decodeTableWord 24 0x12344C = some (.jmpAbs 0x1234) ∧ decodeTableWord 8 0x02 = none :=
  ⟨rfl, rfl, rfl, rfl⟩

/-! ## Well-formedness: each check refuses a term (30_encoding.md R79) -/

theorem test_wellFormed_bra :
    (Instr.bra 128).wellFormed = false ∧ (Instr.bra (-129)).wellFormed = false ∧
    (Instr.bra 127).wellFormed = true ∧ (Instr.bra (-128)).wellFormed = true := by decide

theorem test_wellFormed_beq :
    (Instr.beq 128).wellFormed = false ∧ (Instr.beq (-129)).wellFormed = false ∧
    (Instr.beq 127).wellFormed = true ∧ (Instr.beq (-128)).wellFormed = true := by decide

theorem test_wellFormed_bne :
    (Instr.bne 128).wellFormed = false ∧ (Instr.bne (-129)).wellFormed = false ∧
    (Instr.bne 127).wellFormed = true ∧ (Instr.bne (-128)).wellFormed = true := by decide

theorem test_wellFormed_bcc :
    (Instr.bcc 128).wellFormed = false ∧ (Instr.bcc (-129)).wellFormed = false ∧
    (Instr.bcc 127).wellFormed = true ∧ (Instr.bcc (-128)).wellFormed = true := by decide

theorem test_wellFormed_bcs :
    (Instr.bcs 128).wellFormed = false ∧ (Instr.bcs (-129)).wellFormed = false ∧
    (Instr.bcs 127).wellFormed = true ∧ (Instr.bcs (-128)).wellFormed = true := by decide

theorem test_wellFormed_bvc :
    (Instr.bvc 128).wellFormed = false ∧ (Instr.bvc (-129)).wellFormed = false ∧
    (Instr.bvc 127).wellFormed = true ∧ (Instr.bvc (-128)).wellFormed = true := by decide

theorem test_wellFormed_bvs :
    (Instr.bvs 128).wellFormed = false ∧ (Instr.bvs (-129)).wellFormed = false ∧
    (Instr.bvs 127).wellFormed = true ∧ (Instr.bvs (-128)).wellFormed = true := by decide

theorem test_wellFormed_bmi :
    (Instr.bmi 128).wellFormed = false ∧ (Instr.bmi (-129)).wellFormed = false ∧
    (Instr.bmi 127).wellFormed = true ∧ (Instr.bmi (-128)).wellFormed = true := by decide

theorem test_wellFormed_bpl :
    (Instr.bpl 128).wellFormed = false ∧ (Instr.bpl (-129)).wellFormed = false ∧
    (Instr.bpl 127).wellFormed = true ∧ (Instr.bpl (-128)).wellFormed = true := by decide

/-! ## One step each (95_test_vectors.md section 2) -/

/-- Vector T40.10 (R100). -/
theorem test_lda_T40_10 :
    gives (put [(0x00FF, 0x34), (0x0000, 0x12), (0x0100, 0x77), (0x1234, 0x99)] (code [0xA1, 0xFE] { start with X := 0x01 }))
      (fun s => { s with A := 0x99, N := true, PC := 0x0202 }) [] = true := by decide

/-- Vector T40.12 (R100). -/
theorem test_lda_T40_12 :
    gives (put [(0x00FF, 0x00), (0x0000, 0x40), (0x0100, 0x50), (0x4001, 0x11), (0x5001, 0x22)] (code [0xB1, 0xFF] { start with Y := 0x01 }))
      (fun s => { s with A := 0x11, PC := 0x0202 }) [] = true := by decide

/-- Vector T40.16 (R101). -/
theorem test_ldx_T40_16 :
    gives (put [(0x0010, 0x05), (0x0110, 0x06)] (code [0xB6, 0xF0] { start with Y := 0x20 }))
      (fun s => { s with X := 0x05, PC := 0x0202 }) [] = true := by decide

/-- Vector T40.17 (R101). -/
theorem test_ldx_T40_17 :
    gives (put [(0x3001, 0x00)] (code [0xBE, 0x00, 0x30] { start with Y := 0x01 }))
      (fun s => { s with Z := true, PC := 0x0203 }) [] = true := by decide

/-- Vector T40.19 (R102). -/
theorem test_ldy_T40_19 :
    gives (put [(0x0011, 0x09), (0x0015, 0x08)] (code [0xB4, 0x10] { start with X := 0x01, Y := 0x05 }))
      (fun s => { s with Y := 0x09, PC := 0x0202 }) [] = true := by decide

/-- Vector T40.20 (R102). -/
theorem test_ldy_T40_20 :
    gives (put [(0x3002, 0x0A), (0x3003, 0x0B)] (code [0xBC, 0x00, 0x30] { start with X := 0x02, Y := 0x03 }))
      (fun s => { s with Y := 0x0A, PC := 0x0203 }) [] = true := by decide

/-- Vector T40.23 (R103). -/
theorem test_sta_T40_23 :
    gives (code [0x95, 0xFF] { start with A := 0x12, X := 0x01 })
      (fun s => { s with PC := 0x0202 }) [(0x0000, 0x12)] = true := by decide

/-- Vector T40.27 (R103). -/
theorem test_sta_T40_27 :
    gives (put [(0x0020, 0xFF), (0x0021, 0x40)] (code [0x91, 0x20] { start with A := 0x12, Y := 0x01 }))
      (fun s => { s with PC := 0x0202 }) [(0x4100, 0x12)] = true := by decide

/-- Vector T40.30 (R104). -/
theorem test_stx_T40_30 :
    gives (code [0x96, 0xFF] { start with X := 0x11, Y := 0x02 })
      (fun s => { s with PC := 0x0202 }) [(0x0001, 0x11)] = true := by decide

/-- Vector T40.31 (R104). -/
theorem test_stx_T40_31 :
    gives (code [0x8E, 0x00, 0x30] { start with X := 0xAB })
      (fun s => { s with PC := 0x0203 }) [(0x3000, 0xAB)] = true := by decide

/-- Vector T40.33 (R105). -/
theorem test_sty_T40_33 :
    gives (code [0x94, 0x10] { start with X := 0x01, Y := 0xCD })
      (fun s => { s with PC := 0x0202 }) [(0x0011, 0xCD)] = true := by decide

/-- Vector T40.32 (R105). -/
theorem test_sty_T40_32 :
    gives (code [0x84, 0x10] { start with Y := 0xCD })
      (fun s => { s with PC := 0x0202 }) [(0x0010, 0xCD)] = true := by decide

/-- Vector T40.34 (R106). -/
theorem test_stz_T40_34 :
    gives (put [(0x0010, 0xFF)] (code [0x64, 0x10] { start with A := 0xFF }))
      (fun s => { s with PC := 0x0202 }) [(0x0010, 0x00)] = true := by decide

/-- Vector T40.37 (R106). -/
theorem test_stz_T40_37 :
    gives (put [(0x3005, 0xFF)] (code [0x9E, 0x00, 0x30] { start with X := 0x05 }))
      (fun s => { s with PC := 0x0203 }) [(0x3005, 0x00)] = true := by decide

/-- Vector T41.2 (R110). -/
theorem test_pha_T41_2 :
    gives (code [0x48] { start with A := 0x7E, S := 0x00 })
      (fun s => { s with S := 0xFF, PC := 0x0201 }) [(0x0100, 0x7E)] = true := by decide

/-- Vector T41.3 (R111). -/
theorem test_phx_T41_3 :
    gives (code [0xDA] { start with X := 0x01, S := 0x80 })
      (fun s => { s with S := 0x7F, PC := 0x0201 }) [(0x0180, 0x01)] = true := by decide

/-- Vector T41.4 (R112). -/
theorem test_phy_T41_4 :
    gives (code [0x5A] { start with Y := 0x02, S := 0x7F })
      (fun s => { s with S := 0x7E, PC := 0x0201 }) [(0x017F, 0x02)] = true := by decide

/-- Vector T41.5 (R113). -/
theorem test_php_T41_5 :
    gives (code [0x08] start)
      (fun s => { s with S := 0xFE, PC := 0x0201 }) [(0x01FF, 0x30)] = true := by decide

/-- Vector T41.7 (R113). -/
theorem test_php_T41_7 :
    gives (code [0x08] { start with I := true, Z := true, C := true })
      (fun s => { s with S := 0xFE, PC := 0x0201 }) [(0x01FF, 0x37)] = true := by decide

/-- Vector T41.8 (R114). -/
theorem test_pla_T41_8 :
    gives (put [(0x01FF, 0x00)] (code [0x68] { start with S := 0xFE, A := 0x55 }))
      (fun s => { s with A := 0x00, Z := true, S := 0xFF, PC := 0x0201 }) [] = true := by decide

/-- Vector T41.9 (R114). -/
theorem test_pla_T41_9 :
    gives (put [(0x0100, 0x80)] (code [0x68] { start with S := 0xFF }))
      (fun s => { s with A := 0x80, N := true, S := 0x00, PC := 0x0201 }) [] = true := by decide

/-- Vector T41.10 (R115). -/
theorem test_plx_T41_10 :
    gives (put [(0x0180, 0x81)] (code [0xFA] { start with S := 0x7F }))
      (fun s => { s with X := 0x81, N := true, S := 0x80, PC := 0x0201 }) [] = true := by decide

/-- Vector T41.11 (R116). -/
theorem test_ply_T41_11 :
    gives (put [(0x0101, 0x10)] (code [0x7A] { start with S := 0x00 }))
      (fun s => { s with Y := 0x10, S := 0x01, PC := 0x0201 }) [] = true := by decide

/-- Vector T41.12 (R117). -/
theorem test_plp_T41_12 :
    gives (put [(0x01FF, 0xC3)] (code [0x28] { start with S := 0xFE }))
      (fun s => { s with N := true, V := true, Z := true, C := true, S := 0xFF, PC := 0x0201 }) [] = true := by decide

/-- Vector T41.15 (R117). -/
theorem test_plp_T41_15 :
    gives (put [(0x01FF, 0xCF)] (code [0x28] { start with S := 0xFE }))
      (fun s => { s with N := true, V := true, D := true, I := true, Z := true, C := true, S := 0xFF, PC := 0x0201 }) [] = true := by decide

/-- Vector T41.16 (R118). -/
theorem test_tsx_T41_16 :
    gives (code [0xBA] { start with S := 0xFD })
      (fun s => { s with X := 0xFD, N := true, PC := 0x0201 }) [] = true := by decide

/-- Vector T41.17 (R118). -/
theorem test_tsx_T41_17 :
    gives (code [0xBA] { start with S := 0x00, X := 0x55 })
      (fun s => { s with X := 0x00, Z := true, PC := 0x0201 }) [] = true := by decide

/-- Vector T41.18 (R119). -/
theorem test_txs_T41_18 :
    gives (code [0x9A] { start with X := 0x00, S := 0xFF })
      (fun s => { s with S := 0x00, PC := 0x0201 }) [] = true := by decide

/-- Vector T41.19 (R119). -/
theorem test_txs_T41_19 :
    gives (code [0x9A] { start with X := 0x80, S := 0xFF })
      (fun s => { s with S := 0x80, PC := 0x0201 }) [] = true := by decide

/-- Vector T42.1 (R130). -/
theorem test_ina_T42_1 :
    gives (code [0x1A] { start with A := 0x7F, C := true, V := true })
      (fun s => { s with A := 0x80, N := true, PC := 0x0201 }) [] = true := by decide

/-- Vector T42.2 (R130). -/
theorem test_ina_T42_2 :
    gives (code [0x1A] { start with A := 0xFF })
      (fun s => { s with A := 0x00, Z := true, PC := 0x0201 }) [] = true := by decide

/-- Vector T42.3 (R131). -/
theorem test_inx_T42_3 :
    gives (code [0xE8] { start with X := 0xFF })
      (fun s => { s with X := 0x00, Z := true, PC := 0x0201 }) [] = true := by decide

/-- Vector T42.4 (R132). -/
theorem test_iny_T42_4 :
    gives (code [0xC8] { start with Y := 0x7F })
      (fun s => { s with Y := 0x80, N := true, PC := 0x0201 }) [] = true := by decide

/-- Vector T42.5 (R133). -/
theorem test_dea_T42_5 :
    gives (code [0x3A] { start with A := 0x00 })
      (fun s => { s with A := 0xFF, N := true, PC := 0x0201 }) [] = true := by decide

/-- Vector T42.6 (R133). -/
theorem test_dea_T42_6 :
    gives (code [0x3A] { start with A := 0x01 })
      (fun s => { s with A := 0x00, Z := true, PC := 0x0201 }) [] = true := by decide

/-- Vector T42.7 (R134). -/
theorem test_dex_T42_7 :
    gives (code [0xCA] { start with X := 0x00 })
      (fun s => { s with X := 0xFF, N := true, PC := 0x0201 }) [] = true := by decide

/-- Vector T42.8 (R135). -/
theorem test_dey_T42_8 :
    gives (code [0x88] { start with Y := 0x01 })
      (fun s => { s with Y := 0x00, Z := true, PC := 0x0201 }) [] = true := by decide

/-- Vector T42.9 (R136). -/
theorem test_inc_T42_9 :
    gives (put [(0x0010, 0xFF)] (code [0xE6, 0x10] start))
      (fun s => { s with Z := true, PC := 0x0202 }) [(0x0010, 0x00)] = true := by decide

/-- Vector T42.12 (R136). -/
theorem test_inc_T42_12 :
    gives (put [(0x3002, 0x09)] (code [0xFE, 0x00, 0x30] { start with X := 0x02, D := true }))
      (fun s => { s with PC := 0x0203 }) [(0x3002, 0x0A)] = true := by decide

/-- Vector T42.13 (R137). -/
theorem test_dec_T42_13 :
    gives (put [(0x0010, 0x00)] (code [0xC6, 0x10] start))
      (fun s => { s with N := true, PC := 0x0202 }) [(0x0010, 0xFF)] = true := by decide

/-- Vector T42.16 (R137). -/
theorem test_dec_T42_16 :
    gives (put [(0x30FF, 0x10)] (code [0xDE, 0x00, 0x30] { start with X := 0xFF, D := true }))
      (fun s => { s with PC := 0x0203 }) [(0x30FF, 0x0F)] = true := by decide

/-- Vector T43.3 (R140). -/
theorem test_asl_T43_3 :
    gives (code [0x0A] { start with A := 0x40, C := true })
      (fun s => { s with A := 0x80, N := true, C := false, PC := 0x0201 }) [] = true := by decide

/-- Vector T43.7 (R140). -/
theorem test_asl_T43_7 :
    gives (put [(0x3001, 0x80)] (code [0x1E, 0x00, 0x30] { start with X := 0x01 }))
      (fun s => { s with Z := true, C := true, PC := 0x0203 }) [(0x3001, 0x00)] = true := by decide

/-- Vector T43.10 (R141). -/
theorem test_lsr_T43_10 :
    gives (code [0x4A] { start with A := 0x80, N := true, C := true })
      (fun s => { s with A := 0x40, N := false, C := false, PC := 0x0201 }) [] = true := by decide

/-- Vector T43.13 (R141). -/
theorem test_lsr_T43_13 :
    gives (put [(0x3000, 0x01)] (code [0x4E, 0x00, 0x30] start))
      (fun s => { s with Z := true, C := true, PC := 0x0203 }) [(0x3000, 0x00)] = true := by decide

/-- Vector T43.15 (R142). -/
theorem test_rol_T43_15 :
    gives (code [0x2A] { start with A := 0x40, C := true })
      (fun s => { s with A := 0x81, N := true, C := false, PC := 0x0201 }) [] = true := by decide

/-- Vector T43.18 (R142). -/
theorem test_rol_T43_18 :
    gives (put [(0x0010, 0x80)] (code [0x26, 0x10] { start with C := true }))
      (fun s => { s with PC := 0x0202 }) [(0x0010, 0x01)] = true := by decide

/-- Vector T43.24 (R143). -/
theorem test_ror_T43_24 :
    gives (code [0x6A] { start with A := 0x01, C := true })
      (fun s => { s with A := 0x80, N := true, PC := 0x0201 }) [] = true := by decide

/-- Vector T43.25 (R143). -/
theorem test_ror_T43_25 :
    gives (put [(0x0010, 0x01)] (code [0x66, 0x10] { start with C := true }))
      (fun s => { s with N := true, PC := 0x0202 }) [(0x0010, 0x80)] = true := by decide

/-- Vector T44.4 (R150). -/
theorem test_and_T44_4 :
    gives (put [(0x3000, 0x55)] (code [0x2D, 0x00, 0x30] { start with A := 0xAA, C := true, V := true }))
      (fun s => { s with A := 0x00, Z := true, PC := 0x0203 }) [] = true := by decide

/-- Vector T44.8 (R150). -/
theorem test_and_T44_8 :
    gives (put [(0x0020, 0x00), (0x0021, 0x30), (0x3001, 0x08)] (code [0x31, 0x20] { start with A := 0xFF, Y := 0x01 }))
      (fun s => { s with A := 0x08, PC := 0x0202 }) [] = true := by decide

/-- Vector T44.10 (R151). -/
theorem test_ora_T44_10 :
    gives (code [0x09, 0x80] { start with A := 0x01 })
      (fun s => { s with A := 0x81, N := true, PC := 0x0202 }) [] = true := by decide

/-- Vector T44.12 (R151). -/
theorem test_ora_T44_12 :
    gives (put [(0x0010, 0xF0)] (code [0x05, 0x10] { start with A := 0x0F }))
      (fun s => { s with A := 0xFF, N := true, PC := 0x0202 }) [] = true := by decide

/-- Vector T44.14 (R152). -/
theorem test_eor_T44_14 :
    gives (code [0x49, 0xFF] { start with A := 0x55 })
      (fun s => { s with A := 0xAA, N := true, PC := 0x0202 }) [] = true := by decide

/-- Vector T44.15 (R152). -/
theorem test_eor_T44_15 :
    gives (code [0x49, 0x55] { start with A := 0x55 })
      (fun s => { s with A := 0x00, Z := true, PC := 0x0202 }) [] = true := by decide

/-- Vector T44.20 (R153). -/
theorem test_bit_T44_20 :
    gives (put [(0x0010, 0x3F)] (code [0x24, 0x10] { start with A := 0xFF, N := true, V := true }))
      (fun s => { s with N := false, V := false, PC := 0x0202 }) [] = true := by decide

/-- Vector T44.25 (R153). -/
theorem test_bit_T44_25 :
    gives (code [0x89, 0xC0] { start with A := 0xC0, N := false, V := false, Z := true })
      (fun s => { s with Z := false, PC := 0x0202 }) [] = true := by decide

/-- Vector T44.29 (R154). -/
theorem test_cmp_T44_29 :
    gives (code [0xC9, 0x7F] { start with A := 0x80, V := false })
      (fun s => { s with C := true, PC := 0x0202 }) [] = true := by decide

/-- Vector T44.34 (R154). -/
theorem test_cmp_T44_34 :
    gives (put [(0x0011, 0x04)] (code [0xD5, 0x10] { start with A := 0x05, X := 0x01 }))
      (fun s => { s with C := true, PC := 0x0202 }) [] = true := by decide

/-- Vector T44.42 (R155). -/
theorem test_cpx_T44_42 :
    gives (put [(0x0010, 0x01)] (code [0xE4, 0x10] { start with X := 0x00 }))
      (fun s => { s with N := true, PC := 0x0202 }) [] = true := by decide

/-- Vector T44.43 (R155). -/
theorem test_cpx_T44_43 :
    gives (put [(0x3000, 0x00)] (code [0xEC, 0x00, 0x30] { start with X := 0xFF }))
      (fun s => { s with N := true, C := true, PC := 0x0203 }) [] = true := by decide

/-- Vector T44.44 (R156). -/
theorem test_cpy_T44_44 :
    gives (code [0xC0, 0x10] { start with Y := 0x0F })
      (fun s => { s with N := true, PC := 0x0202 }) [] = true := by decide

/-- Vector T44.45 (R156). -/
theorem test_cpy_T44_45 :
    gives (put [(0x0010, 0x10)] (code [0xC4, 0x10] { start with Y := 0x10 }))
      (fun s => { s with Z := true, C := true, PC := 0x0202 }) [] = true := by decide

/-- Vector T44.47 (R157). -/
theorem test_trb_T44_47 :
    gives (put [(0x0010, 0x3C)] (code [0x14, 0x10] { start with A := 0x0F }))
      (fun s => { s with PC := 0x0202 }) [(0x0010, 0x30)] = true := by decide

/-- Vector T44.49 (R157). -/
theorem test_trb_T44_49 :
    gives (put [(0x3000, 0xFF)] (code [0x1C, 0x00, 0x30] { start with A := 0xFF }))
      (fun s => { s with PC := 0x0203 }) [(0x3000, 0x00)] = true := by decide

/-- Vector T44.50 (R158). -/
theorem test_tsb_T44_50 :
    gives (put [(0x0010, 0xF0)] (code [0x04, 0x10] { start with A := 0x0F }))
      (fun s => { s with Z := true, PC := 0x0202 }) [(0x0010, 0xFF)] = true := by decide

/-- Vector T44.52 (R158). -/
theorem test_tsb_T44_52 :
    gives (put [(0x3000, 0x00)] (code [0x0C, 0x00, 0x30] { start with A := 0x00 }))
      (fun s => { s with Z := true, PC := 0x0203 }) [] = true := by decide

/-- Vector T45.6 (R165). -/
theorem test_adc_T45_6 :
    gives (code [0x69, 0x7F] { start with A := 0x7F, C := true })
      (fun s => { s with A := 0xFF, N := true, V := true, C := false, PC := 0x0202 }) [] = true := by decide

/-- Vector T45.37 (R167). -/
theorem test_adc_T45_37 :
    givesAnyV (code [0x69, 0x46] { start with A := 0x58, C := true, D := true })
      (fun s => { s with A := 0x05, PC := 0x0202 }) = true := by decide

/-- Vector T45.20 (R166). -/
theorem test_sbc_T45_20 :
    gives (code [0xE9, 0x01] { start with A := 0x80, C := true })
      (fun s => { s with A := 0x7F, V := true, PC := 0x0202 }) [] = true := by decide

/-- Vector T45.43 (R168). -/
theorem test_sbc_T45_43 :
    givesAnyV (code [0xE9, 0x21] { start with A := 0x12, C := true, D := true })
      (fun s => { s with A := 0x91, N := true, C := false, PC := 0x0202 }) = true := by decide

/-- Vector T46.4 (R180). -/
theorem test_jmp_T46_4 :
    gives (put [(0xFFFF, 0x34), (0x0000, 0x12)] (code [0x6C, 0xFF, 0xFF] start))
      (fun s => { s with PC := 0x1234 }) [] = true := by decide

/-- Vector T46.6 (R180). -/
theorem test_jmp_T46_6 :
    gives (put [(0x0002, 0xCD), (0x0003, 0xAB)] (code [0x7C, 0xFF, 0xFF] { start with X := 0x03 }))
      (fun s => { s with PC := 0xABCD }) [] = true := by decide

/-- Vector T46.8 (R182). -/
theorem test_jsr_T46_8 :
    gives (code [0x20, 0x00, 0x30] { start with S := 0x00 })
      (fun s => { s with S := 0xFE, PC := 0x3000 }) [(0x0100, 0x02), (0x01FF, 0x02)] = true := by decide

/-- Vector T46.11 (R183). -/
theorem test_rts_T46_11 :
    gives (put [(0x01FE, 0xFF), (0x01FF, 0xFF)] (code [0x60] { start with S := 0xFD }))
      (fun s => { s with S := 0xFF, PC := 0x0000 }) [] = true := by decide

/-- Vector T46.12 (R183). -/
theorem test_rts_T46_12 :
    gives (put [(0x0100, 0xFF), (0x0101, 0x12)] (code [0x60] { start with S := 0xFF }))
      (fun s => { s with S := 0x01, PC := 0x1300 }) [] = true := by decide

/-- Vector T46.13 (R184). -/
theorem test_rti_T46_13 :
    gives (put [(0x01FD, 0x21), (0x01FE, 0x34), (0x01FF, 0x12)] (code [0x40] { start with S := 0xFC }))
      (fun s => { s with C := true, S := 0xFF, PC := 0x1234 }) [] = true := by decide

/-- Vector T46.15 (R184). -/
theorem test_rti_T46_15 :
    gives (put [(0x01FD, 0x10), (0x01FE, 0x00), (0x01FF, 0x80)] (code [0x40] { start with S := 0xFC, I := true }))
      (fun s => { s with I := false, S := 0xFF, PC := 0x8000 }) [] = true := by decide

/-- Vector T46.19 (R185). -/
theorem test_bra_T46_19 :
    gives (code [0x80, 0x80] start)
      (fun s => { s with PC := 0x0182 }) [] = true := by decide

/-- Vector T46.20 (R185). -/
theorem test_bra_T46_20 :
    gives (code [0x80, 0x10] { start with PC := 0xFFFC })
      (fun s => { s with PC := 0x000E }) [] = true := by decide

/-- Vector T46.22 (R186). -/
theorem test_beq_T46_22 :
    gives (code [0xF0, 0x05] { start with Z := true })
      (fun s => { s with PC := 0x0207 }) [] = true := by decide

/-- Vector T46.23 (R186). -/
theorem test_beq_T46_23 :
    gives (code [0xF0, 0x05] { start with Z := false })
      (fun s => { s with PC := 0x0202 }) [] = true := by decide

/-- Vector T46.24 (R187). -/
theorem test_bne_T46_24 :
    gives (code [0xD0, 0xFD] { start with Z := false, PC := 0x0205 })
      (fun s => { s with PC := 0x0204 }) [] = true := by decide

/-- Vector T46.25 (R187). -/
theorem test_bne_T46_25 :
    gives (code [0xD0, 0xFD] { start with Z := true, PC := 0x0205 })
      (fun s => { s with PC := 0x0207 }) [] = true := by decide

/-- Vector T46.26 (R188). -/
theorem test_bcc_T46_26 :
    gives (code [0x90, 0x02] { start with C := false })
      (fun s => { s with PC := 0x0204 }) [] = true := by decide

/-- Vector T46.27 (R188). -/
theorem test_bcc_T46_27 :
    gives (code [0x90, 0x02] { start with C := true })
      (fun s => { s with PC := 0x0202 }) [] = true := by decide

/-- Vector T46.28 (R189). -/
theorem test_bcs_T46_28 :
    gives (code [0xB0, 0x02] { start with C := true })
      (fun s => { s with PC := 0x0204 }) [] = true := by decide

/-- Vector T46.29 (R189). -/
theorem test_bcs_T46_29 :
    gives (code [0xB0, 0x02] { start with C := false })
      (fun s => { s with PC := 0x0202 }) [] = true := by decide

/-- Vector T46.30 (R190). -/
theorem test_bvc_T46_30 :
    gives (code [0x50, 0x7F] { start with V := false, PC := 0x1000 })
      (fun s => { s with PC := 0x1081 }) [] = true := by decide

/-- Vector T46.31 (R190). -/
theorem test_bvc_T46_31 :
    gives (code [0x50, 0x7F] { start with V := true, PC := 0x1000 })
      (fun s => { s with PC := 0x1002 }) [] = true := by decide

/-- Vector T46.32 (R191). -/
theorem test_bvs_T46_32 :
    gives (code [0x70, 0x80] { start with V := true, PC := 0x1000 })
      (fun s => { s with PC := 0x0F82 }) [] = true := by decide

/-- Vector T46.33 (R191). -/
theorem test_bvs_T46_33 :
    gives (code [0x70, 0x80] { start with V := false, PC := 0x1000 })
      (fun s => { s with PC := 0x1002 }) [] = true := by decide

/-- Vector T46.34 (R192). -/
theorem test_bmi_T46_34 :
    gives (code [0x30, 0x04] { start with N := true })
      (fun s => { s with PC := 0x0206 }) [] = true := by decide

/-- Vector T46.35 (R192). -/
theorem test_bmi_T46_35 :
    gives (code [0x30, 0x04] { start with N := false })
      (fun s => { s with PC := 0x0202 }) [] = true := by decide

/-- Vector T46.36 (R193). -/
theorem test_bpl_T46_36 :
    gives (code [0x10, 0xFB] { start with N := false, PC := 0x0210 })
      (fun s => { s with PC := 0x020D }) [] = true := by decide

/-- Vector T46.37 (R193). -/
theorem test_bpl_T46_37 :
    gives (code [0x10, 0xFB] { start with N := true, PC := 0x0210 })
      (fun s => { s with PC := 0x0212 }) [] = true := by decide

/-- Vector T47.1 (R200). -/
theorem test_clc_T47_1 :
    gives (code [0x18] { start with C := true })
      (fun s => { s with C := false, PC := 0x0201 }) [] = true := by decide

/-- Vector T47.3 (R201). -/
theorem test_cld_T47_3 :
    gives (code [0xD8] { start with D := true })
      (fun s => { s with D := false, PC := 0x0201 }) [] = true := by decide

/-- Vector T47.4 (R202). -/
theorem test_cli_T47_4 :
    gives (code [0x58] { start with I := true })
      (fun s => { s with I := false, PC := 0x0201 }) [] = true := by decide

/-- Vector T47.5 (R203). -/
theorem test_clv_T47_5 :
    gives (code [0xB8] { start with V := true })
      (fun s => { s with V := false, PC := 0x0201 }) [] = true := by decide

/-- Vector T47.6 (R204). -/
theorem test_sec_T47_6 :
    gives (code [0x38] { start with C := false })
      (fun s => { s with C := true, PC := 0x0201 }) [] = true := by decide

/-- Vector T47.7 (R205). -/
theorem test_sed_T47_7 :
    gives (code [0xF8] { start with D := false })
      (fun s => { s with D := true, PC := 0x0201 }) [] = true := by decide

/-- Vector T47.9 (R206). -/
theorem test_sei_T47_9 :
    gives (code [0x78] { start with N := true, V := true, D := true, Z := true, C := true })
      (fun s => { s with I := true, PC := 0x0201 }) [] = true := by decide

/-- Vector T48.1 (R210). -/
theorem test_tax_T48_1 :
    gives (code [0xAA] { start with A := 0x00, X := 0x55 })
      (fun s => { s with X := 0x00, Z := true, PC := 0x0201 }) [] = true := by decide

/-- Vector T48.2 (R210). -/
theorem test_tax_T48_2 :
    gives (code [0xAA] { start with A := 0x80 })
      (fun s => { s with X := 0x80, N := true, PC := 0x0201 }) [] = true := by decide

/-- Vector T48.3 (R211). -/
theorem test_tay_T48_3 :
    gives (code [0xA8] { start with A := 0x80 })
      (fun s => { s with Y := 0x80, N := true, PC := 0x0201 }) [] = true := by decide

/-- Vector T48.4 (R211). -/
theorem test_tay_T48_4 :
    gives (code [0xA8] { start with A := 0x00, Y := 0x01, N := true })
      (fun s => { s with Y := 0x00, N := false, Z := true, PC := 0x0201 }) [] = true := by decide

/-- Vector T48.5 (R212). -/
theorem test_txa_T48_5 :
    gives (code [0x8A] { start with X := 0x7F, N := true })
      (fun s => { s with A := 0x7F, N := false, PC := 0x0201 }) [] = true := by decide

/-- Vector T48.6 (R212). -/
theorem test_txa_T48_6 :
    gives (code [0x8A] { start with X := 0x00, A := 0xFF })
      (fun s => { s with A := 0x00, Z := true, PC := 0x0201 }) [] = true := by decide

/-- Vector T48.7 (R213). -/
theorem test_tya_T48_7 :
    gives (code [0x98] { start with Y := 0xFF })
      (fun s => { s with A := 0xFF, N := true, PC := 0x0201 }) [] = true := by decide

/-- Vector T49.1 (R220). -/
theorem test_nop_T49_1 :
    gives (code [0xEA] { start with N := true, V := true, D := true, I := true, Z := true, C := true, A := 0x12, X := 0x34, Y := 0x56 })
      (fun s => { s with PC := 0x0201 }) [] = true := by decide

/-- Vector T49.2 (R220). -/
theorem test_nop_T49_2 :
    gives (code [0xEA] { start with PC := 0xFFFF })
      (fun s => { s with PC := 0x0000 }) [] = true := by decide

/-- Vector T49.3 (R221). -/
theorem test_brk_T49_3 :
    gives (put [(0xFFFE, 0x00), (0xFFFF, 0x90)] (code [0x00] { start with D := true, C := true }))
      (fun s => { s with S := 0xFC, I := true, D := false, PC := 0x9000 }) [(0x01FF, 0x02), (0x01FE, 0x02), (0x01FD, 0x39)] = true := by decide

/-- Vector T49.5 (R221). -/
theorem test_brk_T49_5 :
    gives (put [(0xFFFE, 0x34), (0xFFFF, 0x12)] (code [0x00] { start with S := 0x01 }))
      (fun s => { s with S := 0xFE, I := true, PC := 0x1234 }) [(0x0101, 0x02), (0x0100, 0x02), (0x01FF, 0x30)] = true := by decide

/-- Vectors T45.X and T45.Y (R167 case 2, R168 case 2): an operand that is not valid BCD. -/
theorem test_decimal_without_bcd :
    givesAnySum (code [0x69, 0x0A] { start with A := 0x05, D := true }) (fun s => { s with PC := 0x0202 }) = true ∧
    givesAnySum (code [0xE9, 0x01] { start with A := 0x1F, C := true, D := true })
      (fun s => { s with PC := 0x0202 }) = true := by decide

/-! ## Events and stops (95_test_vectors.md section 3) -/

/-- The entry answers the state changed by `f` and in the listed bytes. -/
def enters (r : Result State) (s : State) (f : State → State) (cells : List (Addr × Byte)) : Bool :=
  match r with
  | .next t => decide (t = put cells (f s))
  | _ => false

/-- The state of vector T60.1. -/
def irqStart : State := put [(0xFFFF, 0x90)] { start with PC := 0x0201, X := 0x01, irqLine := true }

/-- Vector T60.1 (R237). -/
theorem test_irq_entry :
    enters (irqEvent irqStart) irqStart (fun s => { s with S := 0xFC, I := true, D := false, PC := 0x9000 })
      [(0x01FF, 0x02), (0x01FE, 0x01), (0x01FD, 0x20)] = true := by decide

/-- Vector T60.2 (R236): no entry with I = 1; the instruction at PC (here NOP) runs. -/
theorem test_irq_masked :
    gives (code [0xEA] { start with irqLine := true, I := true }) (fun s => { s with PC := 0x0201 }) [] = true := by decide

/-- Vector T60.3 (R235, R237). -/
theorem test_nmi_entry :
    enters (nmiEvent (put [(0xFFFB, 0xA0)] { start with PC := 0x0201, I := true, nmiPending := true }))
      (put [(0xFFFB, 0xA0)] start) (fun s => { s with S := 0xFC, I := true, PC := 0xA000 })
      [(0x01FF, 0x02), (0x01FE, 0x01), (0x01FD, 0x24)] = true := by decide

/-- Vector T60.4 (R237): the pushed byte has B = 0 and D as it was. -/
theorem test_irq_entry_flags :
    enters (irqEvent (put [(0xFFFF, 0x90)] { start with PC := 0x1234, S := 0x80, N := true, D := true, C := true }))
      (put [(0xFFFF, 0x90)] { start with N := true, C := true })
      (fun s => { s with S := 0x7D, I := true, D := false, PC := 0x9000 })
      [(0x0180, 0x12), (0x017F, 0x34), (0x017E, 0xA9)] = true := by decide

/-- Vector T60.5 (R238): with both requests present NMI is the one. -/
theorem test_nmi_before_irq :
    takenRequest { start with nmiPending := true, irqLine := true } =
      .nmi { start with nmiPending := true, irqLine := true } := by decide

/-- The state of vector T70.1, with Env asserting RESET. -/
def resetStart : State :=
  put [(0xFFFD, 0x80)] { start with A := 0x99, X := 0x77, S := 0x3C, PC := 0x1234, D := true, C := true,
                                    nmiPending := true, env := [⟨false, true, true⟩] }

/-- Vector T70.1 (R260): what RESET fixes; A, X, Y, S, N, V, Z and C are free values. -/
theorem test_reset_event :
    (match step resetStart with
      | .next t => t.I && !t.D && t.PC == 0x8000 && !t.nmiPending && decide (t.mem = resetStart.mem) && t.env == []
      | _ => false) = true := by decide

/-- Vector T30.1 (R66): undefined opcode bytes. -/
theorem test_undefined_opcode :
    refuses (step (code [0x02] start)) (.undefinedOpcode 0x02) = true ∧
    refuses (step (code [0x5C] start)) (.undefinedOpcode 0x5C) = true ∧
    refuses (step (code [0xDB] start)) (.undefinedOpcode 0xDB) = true := by decide

/-- A JSR at `$01FD` with S = `$FF` pushes on its own operand bytes (46_flow.md R182, U9). -/
theorem test_jsr_on_its_operand :
    refuses (step (code [0x20, 0x00, 0x30] { start with PC := 0x01FD })) .jsrOverwritesItself = true := by decide

/-- A program placed by the host's own function runs as the first instruction after reset (log 3). -/
theorem test_with_fetch_word :
    gives (State.reset.withFetchWord 16 0x80A9) (fun s => { s with A := 0x80, N := true, PC := 0x0002 }) [] = true := by
  decide

/-! ## Witnesses: for each statement with hypotheses, inputs that meet them together -/

/-- One instruction at `$0200`, with A = `$80`. -/
def running (bytes : List Byte) : State := code bytes { start with A := 0x80 }

theorem witness_DecodeOfEncode :
    (Instr.bne (-128)).wellFormed = true ∧ (Instr.bne 127).wellFormed = true ∧ (Instr.jsr 0xFFFF).wellFormed = true := by
  decide

theorem witness_EncodeOfDecode : decode [0xAD, 0xFF, 0x00, 0xEA] = .ok (.ldaAbs 0x00FF, [0xEA]) := rfl

theorem witness_UndefinedOpcodeRefused :
    readByte (running [0x02]).PC (running [0x02]) = .next 0x02 ∧ (0x02 : Byte) ∈ undefinedOpcodes ∧
    readByte (running [0xFF]).PC (running [0xFF]) = .next 0xFF ∧ (0xFF : Byte) ∈ undefinedOpcodes :=
  ⟨rfl, by decide, rfl, by decide⟩

theorem witness_StepRunsDecodedInstruction_decoded :
    boundary (running [0x85, 0x10]) = .instruction (running [0x85, 0x10]) ∧
    decode [0x85, 0x10] = .ok (.staZpg 0x10, []) ∧
    (∀ k, k < (Instr.staZpg 0x10).size →
      readByte ((running [0x85, 0x10]).PC + BitVec.ofNat 16 k) (running [0x85, 0x10]) =
        .next ([0x85, 0x10].getD k (0 : Byte))) := by
  refine ⟨rfl, rfl, fun k hk => ?_⟩
  have : k = 0 ∨ k = 1 := by
    have : k < 2 := hk
    omega
  rcases this with rfl | rfl <;> rfl

theorem witness_StepRunsDecodedInstruction_quiet :
    resetAsserted { start with irqLine := true, I := true } = false ∧
    requestPresent (sampleEnv { start with irqLine := true, I := true }) = false := by decide

theorem witness_StepKeepsMemoryCanonical :
    (running [0x85, 0x10]).mem.wf = true ∧
    step (running [0x85, 0x10]) = .next ((running [0x85, 0x10]).poke 0x0010 0x80 |>.setPC 0x0202) :=
  ⟨by decide, rfl⟩

theorem witness_StepKeepsPlatform : ∃ t, step (running [0x85, 0x10]) = .next t := ⟨_, rfl⟩

/-- `$8000` to `$FFFF` is ROM. -/
def romState : State := { running [0x85, 0x10] with memMap := [⟨0x8000, 0xFFFF, .rom⟩] }

theorem witness_StepKeepsUnwritableBytes : (∃ t, step romState = .next t) ∧ romState.kindOf 0x8000 ≠ .ram :=
  ⟨⟨_, rfl⟩, by decide⟩

theorem witness_ReadAfterWrite :
    start.kindOf 0x0000 = .ram ∧ start.kindOf 0xFFFF = .ram ∧ (0x0000 : Addr) ≠ 0xFFFF := by decide

theorem witness_MeaninglessAccessStops :
    ({ start with memMap := [⟨0x4000, 0x4FFF, .absent⟩] } : State).kindOf 0x4FFF = .absent ∧
    ({ start with memMap := [⟨0x4000, 0x4FFF, .rom⟩] } : State).kindOf 0x4000 = .rom ∧
    ({ start with memMap := [⟨0x4000, 0x4000, .device⟩] } : State).kindOf 0x4000 = .device := by decide

theorem witness_EveryInstructionCompletesOnPlainMemory :
    AllPlain start ∧ (Instr.jsr 0x3000).mnemonic = .jsr ∧ jsrOverwritesOperand start = false :=
  ⟨fun _ => rfl, rfl, by decide⟩

theorem witness_PullUndoesPush :
    start.kindOf (stackAddr start.S) = .ram ∧ ({ start with S := 0x00 } : State).kindOf (stackAddr 0x00) = .ram := by decide

theorem witness_ResetEventTaken :
    resetStart.env = ⟨false, true, true⟩ :: [] ∧ read16 0xFFFC resetStart = .next 0x8000 := ⟨rfl, rfl⟩

theorem witness_EnvInputTakenIn : start.env = [] ∧ resetStart.env = ⟨false, true, true⟩ :: [] := ⟨rfl, rfl⟩

theorem witness_RequestsByPriorityAndMask_nmi :
    resetAsserted { start with nmiPending := true, I := true } = false ∧
    (sampleEnv { start with nmiPending := true, I := true }).nmiPending = true := by decide

theorem witness_RequestsByPriorityAndMask_irq :
    resetAsserted { start with irqLine := true } = false ∧
    (sampleEnv { start with irqLine := true }).nmiPending = false ∧
    (sampleEnv { start with irqLine := true }).irqLine = true ∧
    (sampleEnv { start with irqLine := true }).I = false := by decide

theorem witness_RequestsByPriorityAndMask_none :
    resetAsserted { start with irqLine := true, I := true } = false ∧
    (sampleEnv { start with irqLine := true, I := true }).nmiPending = false ∧
    (sampleEnv { start with irqLine := true, I := true }).I = true ∧
    resetAsserted start = false ∧ (sampleEnv start).nmiPending = false ∧ (sampleEnv start).irqLine = false := by decide

theorem witness_InterruptEntersHandler :
    irqStart.kindOf (stackAddr irqStart.S) = .ram ∧ irqStart.kindOf (stackAddr (irqStart.S - 1)) = .ram ∧
    irqStart.kindOf (stackAddr (irqStart.S - 2)) = .ram ∧
    read16 0xFFFE irqStart = .next 0x9000 ∧ read16 0xFFFA irqStart = .next 0x0000 :=
  ⟨rfl, rfl, rfl, rfl, rfl⟩

/-- S wraps during the three pushes. -/
theorem witness_BrkEntersHandler :
    ({ irqStart with S := 0x01 } : State).kindOf (stackAddr 0x01) = .ram ∧
    ({ irqStart with S := 0x01 } : State).kindOf (stackAddr (0x01 - 1)) = .ram ∧
    ({ irqStart with S := 0x01 } : State).kindOf (stackAddr (0x01 - 2)) = .ram ∧
    read16 0xFFFE { irqStart with S := 0x01 } = .next 0x9000 :=
  ⟨rfl, rfl, rfl, rfl⟩

/-- A stack of three bytes above S = `$FC`. -/
def pulling : State := put [(0x01FD, 0x21), (0x01FE, 0x34), (0x01FF, 0x12)] { start with S := 0xFC }

theorem witness_RtiPullsFlagsAndPC :
    readByte (stackAddr (pulling.S + 1)) pulling = .next 0x21 ∧ readByte (stackAddr (pulling.S + 2)) pulling = .next 0x34 ∧
    readByte (stackAddr (pulling.S + 3)) pulling = .next 0x12 := ⟨rfl, rfl, rfl⟩

theorem witness_RtiUndoesEntry : ∃ t, enterHandler 0x0202 true irqVector irqStart = .next t := ⟨_, rfl⟩

theorem witness_LoadsTakeTheOperand :
    (Instr.ldaIzx 0xFE).operand.source? = some (.mem (.izx 0xFE)) ∧
    readSource (.mem (.izx 0xFE)) (put [(0x00FF, 0x34), (0x0000, 0x12), (0x1234, 0x99)] { start with X := 0x01 }) =
      .next 0x99 ∧
    (Instr.ldxImm 0x00).operand.source? = some (.imm 0x00) ∧ readSource (.imm 0x00) start = .next 0x00 ∧
    (Instr.ldyAbx 0xFFFF).operand.source? = some (.mem (.abx 0xFFFF)) ∧
    readSource (.mem (.abx 0xFFFF)) start = .next 0x00 :=
  ⟨rfl, rfl, rfl, rfl, rfl, rfl⟩

theorem witness_StoresWriteOneByte :
    ((Instr.staZpx 0xFF).operand = .mem (.zpx 0xFF) ∧
      effectiveAddress (.zpx 0xFF) { start with X := 0x01 } = .next 0x0000 ∧ start.kindOf 0x0000 = .ram) ∧
    ((Instr.stxAbs 0xFFFF).operand = .mem (.abs 0xFFFF) ∧ effectiveAddress (.abs 0xFFFF) start = .next 0xFFFF ∧
      start.kindOf 0xFFFF = .ram) ∧
    (Instr.styAbs 0xFFFF).operand = .mem (.abs 0xFFFF) ∧ (Instr.stzAbs 0xFFFF).operand = .mem (.abs 0xFFFF) :=
  ⟨⟨rfl, rfl, rfl⟩, ⟨rfl, rfl, rfl⟩, rfl, rfl⟩

theorem witness_PushesStoreAndLowerS : ({ start with S := 0x00 } : State).kindOf (stackAddr 0x00) = .ram := rfl

theorem witness_PullsRaiseSAndRead :
    readByte (stackAddr (pulling.S + 1)) pulling = .next 0x21 ∧ readByte (stackAddr (start.S + 1)) start = .next 0x00 :=
  ⟨rfl, rfl⟩

/-- INC, DEC, TRB, TSB and the shifts of memory share these inputs. -/
theorem witness_MemoryStepsByOne :
    ((Instr.incAbx 0xFFFF).operand = .mem (.abx 0xFFFF) ∧
      effectiveAddress (.abx 0xFFFF) { start with X := 0x01 } = .next 0x0000 ∧ start.kindOf 0x0000 = .ram) ∧
    (Instr.incAbx 0xFFFF).mnemonic = .inc ∧
    (Instr.decZpg 0xFF).operand = .mem (.zpg 0xFF) ∧ effectiveAddress (.zpg 0xFF) start = .next 0x00FF ∧
    start.kindOf 0x00FF = .ram ∧ (Instr.decZpg 0xFF).mnemonic = .dec :=
  ⟨⟨rfl, rfl, rfl⟩, rfl, rfl, rfl, rfl, rfl⟩

theorem witness_ShiftsMoveOneBit :
    (Instr.aslZpg 0xFF).operand = .mem (.zpg 0xFF) ∧ (Instr.aslZpg 0xFF).mnemonic = .asl ∧
    (Instr.lsrZpg 0xFF).operand = .mem (.zpg 0xFF) ∧ (Instr.lsrZpg 0xFF).mnemonic = .lsr ∧
    (Instr.rolZpg 0xFF).operand = .mem (.zpg 0xFF) ∧ (Instr.rolZpg 0xFF).mnemonic = .rol ∧
    (Instr.rorZpg 0xFF).operand = .mem (.zpg 0xFF) ∧ (Instr.rorZpg 0xFF).mnemonic = .ror ∧
    effectiveAddress (.zpg 0xFF) start = .next 0x00FF ∧ start.kindOf 0x00FF = .ram :=
  ⟨rfl, rfl, rfl, rfl, rfl, rfl, rfl, rfl, rfl, rfl⟩

theorem witness_BitwiseLogicIntoA :
    (Instr.andImm 0xFF).operand.source? = some (.imm 0xFF) ∧ (Instr.andImm 0xFF).mnemonic = .and ∧
    (Instr.oraImm 0xFF).operand.source? = some (.imm 0xFF) ∧ (Instr.oraImm 0xFF).mnemonic = .ora ∧
    (Instr.eorImm 0xFF).operand.source? = some (.imm 0xFF) ∧ (Instr.eorImm 0xFF).mnemonic = .eor ∧
    readSource (.imm 0xFF) start = .next 0xFF :=
  ⟨rfl, rfl, rfl, rfl, rfl, rfl, rfl⟩

theorem witness_BitTestsAgainstA :
    (Instr.bitAbs 0xFFFF).mnemonic = .bit ∧ (Instr.bitAbs 0xFFFF).operand = .mem (.abs 0xFFFF) ∧
    readSource (.mem (.abs 0xFFFF)) start = .next 0x00 := ⟨rfl, rfl, rfl⟩

theorem witness_ComparesAreUnsigned :
    (Instr.cmpImm 0x80).operand.source? = some (.imm 0x80) ∧ (Instr.cmpImm 0x80).mnemonic = .cmp ∧
    (Instr.cpxImm 0x80).operand.source? = some (.imm 0x80) ∧ (Instr.cpxImm 0x80).mnemonic = .cpx ∧
    (Instr.cpyImm 0x80).operand.source? = some (.imm 0x80) ∧ (Instr.cpyImm 0x80).mnemonic = .cpy ∧
    readSource (.imm 0x80) start = .next 0x80 :=
  ⟨rfl, rfl, rfl, rfl, rfl, rfl, rfl⟩

theorem witness_TestAndChangeBits :
    (Instr.trbAbs 0xFFFF).operand = .mem (.abs 0xFFFF) ∧ (Instr.trbAbs 0xFFFF).mnemonic = .trb ∧
    (Instr.tsbAbs 0xFFFF).operand = .mem (.abs 0xFFFF) ∧ (Instr.tsbAbs 0xFFFF).mnemonic = .tsb ∧
    effectiveAddress (.abs 0xFFFF) start = .next 0xFFFF ∧ start.kindOf 0xFFFF = .ram :=
  ⟨rfl, rfl, rfl, rfl, rfl, rfl⟩

theorem witness_BinaryAddAndSubtract :
    (Instr.adcImm 0x7F).operand.source? = some (.imm 0x7F) ∧ (Instr.adcImm 0x7F).mnemonic = .adc ∧
    (Instr.sbcImm 0x7F).operand.source? = some (.imm 0x7F) ∧ (Instr.sbcImm 0x7F).mnemonic = .sbc ∧
    readSource (.imm 0x7F) start = .next 0x7F ∧ start.D = false :=
  ⟨rfl, rfl, rfl, rfl, rfl, rfl⟩

theorem witness_DecimalAddAndSubtract :
    (Instr.adcImm 0x99).operand.source? = some (.imm 0x99) ∧ (Instr.sbcImm 0x99).operand.source? = some (.imm 0x99) ∧
    readSource (.imm 0x99) { start with D := true } = .next 0x99 ∧ validBcd start.A = true ∧ validBcd 0x99 = true :=
  ⟨rfl, rfl, rfl, by decide, by decide⟩

theorem witness_DecimalWithoutBcdOperands :
    (Instr.adcImm 0x9A).operand.source? = some (.imm 0x9A) ∧
    readSource (.imm 0x9A) { start with D := true } = .next 0x9A ∧ validBcd 0x9A = false ∧
    (Instr.sbcImm 0x01).operand.source? = some (.imm 0x01) ∧
    readSource (.imm 0x01) { start with A := 0xA0, D := true } = .next 0x01 ∧ validBcd 0xA0 = false :=
  ⟨rfl, rfl, by decide, rfl, rfl, by decide⟩

theorem witness_DecimalResultsExact : validBcd 0x00 = true ∧ validBcd 0x99 = true := by decide

theorem witness_JumpsSetPC :
    readByte 0xFFFF start = .next 0x00 ∧ readByte (0xFFFF + 1) start = .next 0x00 ∧
    readByte (0xFFFF + ({ start with X := 0x03 } : State).X.setWidth 16) { start with X := 0x03 } = .next 0x00 ∧
    readByte (0xFFFF + ({ start with X := 0x03 } : State).X.setWidth 16 + 1) { start with X := 0x03 } = .next 0x00 :=
  ⟨rfl, rfl, rfl, rfl⟩

/-- S wraps between the two pushes; and a JSR whose first push falls on its third byte. -/
theorem witness_JsrPushesReturnAddress :
    (({ start with S := 0x00 } : State).kindOf (stackAddr 0x00) = .ram ∧
      ({ start with S := 0x00 } : State).kindOf (stackAddr (0x00 - 1)) = .ram ∧
      ∀ p ∈ [stackAddr 0x00, stackAddr (0x00 - 1)], p ≠ start.PC + 1 ∧ p ≠ start.PC + 2) ∧
    (stackAddr 0xFF ∈ [stackAddr 0xFF, stackAddr (0xFF - 1)] ∧
      stackAddr 0xFF = ({ start with PC := 0x01FD } : State).PC + 2) := by
  refine ⟨⟨rfl, rfl, fun p hp => ?_⟩, List.mem_cons_self, by decide⟩
  rcases List.mem_cons.1 hp with rfl | hp
  · decide
  · rw [List.mem_singleton.1 hp]
    decide

theorem witness_RtsPullsAndAddsOne :
    readByte (stackAddr (pulling.S + 1)) pulling = .next 0x21 ∧
    readByte (stackAddr (pulling.S + 2)) pulling = .next 0x34 := ⟨rfl, rfl⟩

theorem witness_RtsUndoesJsr : ∃ t, exec (.jsr 0x3000) start = .next t := ⟨_, rfl⟩

theorem witness_EffectiveAddressesOfModes :
    readByte (BitVec.ofNat 16 (((0xFE : Byte).toNat + irqStart.X.toNat) % 256)) irqStart = .next 0x00 ∧
    readByte (BitVec.ofNat 16 (((0xFE : Byte).toNat + irqStart.X.toNat + 1) % 256)) irqStart = .next 0x00 :=
  ⟨rfl, rfl⟩

theorem witness_IndexedAddressesWrap :
    readByte (BitVec.ofNat 16 (0xFF : Byte).toNat) start = .next 0x00 ∧
    readByte (BitVec.ofNat 16 (((0xFF : Byte).toNat + 1) % 256)) start = .next 0x00 :=
  ⟨rfl, rfl⟩

theorem witness_OnlyListedFlagsChange :
    (∃ t, exec (.bitImm 0xC0) start = .next t) ∧ Flag.v ∉ flagsWritten (.bitImm 0xC0) ∧
    (∃ t, exec .brk start = .next t) ∧ Flag.n ∉ flagsWritten .brk :=
  ⟨⟨_, rfl⟩, by decide, ⟨_, rfl⟩, by decide⟩

theorem witness_OnlyListedRegistersChange :
    (∃ t, exec .txs start = .next t) ∧ Reg.x ∉ registersWritten .txs := ⟨⟨_, rfl⟩, by decide⟩

theorem witness_OnlyStoredBytesChange :
    (∃ t, exec (.incZpg 0xFF) start = .next t) ∧ (0x00FE : Addr) ∉ storedAddresses (.incZpg 0xFF) start ∧
    (∃ t, exec .brk start = .next t) ∧ (0x01FC : Addr) ∉ storedAddresses .brk start :=
  ⟨⟨_, rfl⟩, by decide, ⟨_, rfl⟩, by decide⟩

theorem witness_StraightLineAdvancesPC :
    (∃ t, exec (.ldaAbs 0xFFFF) { start with PC := 0xFFFE } = .next t) ∧ assignsPC (.ldaAbs 0xFFFF) = false :=
  ⟨⟨_, rfl⟩, rfl⟩

theorem witness_InstructionsLeaveTheRestAlone :
    (∃ t, exec (.adcImm 0x01) start = .next t) ∧ start.D = false ∧
    (∃ t, exec .nop { start with D := true } = .next t) ∧ Instr.nop.mnemonic ≠ .adc ∧ Instr.nop.mnemonic ≠ .sbc :=
  ⟨⟨_, rfl⟩, rfl, ⟨_, rfl⟩, by decide, by decide⟩

/-- I is cleared by CLI, set by SEI, and set by a RESET event. -/
theorem witness_InterruptDisableChangesOnlyHere :
    (∃ t, step { running [0x58] with I := true } = .next t ∧ t.I = false) ∧
    (∃ t, step (running [0x78]) = .next t ∧ t.I = true) ∧
    (resetStart.I = false ∧ ∃ t, step resetStart = .next t ∧ t.I = true) :=
  ⟨⟨_, rfl, rfl⟩, ⟨_, rfl, rfl⟩, rfl, ⟨_, rfl, rfl⟩⟩

theorem test_reset_memory_canonical : State.reset.mem.wf = true := rfl

end Sys2Proof.Tests
end

section
/-! SUPPORT. Frames. What each shared operation keeps, over any observation of the state: the flags, the registers and the
other fields are all observations, so each operation is walked through once. -/

namespace Sys2Proof.Machine

/-- Where `r` answers a next state, that state looks the same as `s` through `obs`. -/
def Keeps {α : Type} (obs : State → α) (s : State) (r : Result State) : Prop := ∀ t, r = .next t → obs t = obs s

/-- An observation that does not see where control is. -/
def IgnoresPC {α : Type} (obs : State → α) : Prop := ∀ a s, obs (s.setPC a) = obs s

/-- An observation that does not see the bytes of memory. -/
def IgnoresMem {α : Type} (obs : State → α) : Prop := ∀ a v s, obs (s.poke a v) = obs s

/-- An observation that does not see the stack pointer. -/
def IgnoresS {α : Type} (obs : State → α) : Prop := ∀ v s, obs (s.setReg .s v) = obs s

/-- An observation that sees neither the register `r` nor N and Z. -/
def IgnoresResult {α : Type} (r : Reg) (obs : State → α) : Prop := ∀ u v s, obs ((s.setReg r u).setNZ v) = obs s

section Operations

variable {α : Type} {obs : State → α} {s : State}

theorem keeps_next {t : State} (h : obs t = obs s) : Keeps obs s (.next t) := by
  rintro _ ⟨⟩
  exact h

theorem keeps_self : Keeps obs s (.next s) := keeps_next rfl

theorem andThen_keeps {β : Type} {r : Result β} {k : β → Result State}
    (h : ∀ b, r = .next b → Keeps obs s (k b)) : Keeps obs s (andThen r k) := by
  intro t ht
  obtain ⟨b, hb, hk⟩ := andThen_eq_next.1 ht
  exact h b hb t hk

theorem IgnoresPC.advance (hPC : IgnoresPC obs) (n : Nat) (t : State) : obs (t.advance n) = obs t := hPC _ t

/-! The shapes of an instruction over its operand. -/

theorem impliedOp_keeps {f : State → State} (hPC : IgnoresPC obs) (hf : ∀ t, obs (f t) = obs t) :
    Keeps obs s (impliedOp f s) :=
  keeps_next ((hPC.advance _ _).trans (hf s))

theorem readOp_keeps {f : Byte → State → State} {src : Source} (hPC : IgnoresPC obs)
    (hf : ∀ v, obs (f v s) = obs s) : Keeps obs s (readOp f src s) :=
  andThen_keeps fun v _ => keeps_next ((hPC.advance _ _).trans (hf v))

theorem storeOp_keeps {v : Byte} {m : MemMode} (hPC : IgnoresPC obs) (hMem : IgnoresMem obs) :
    Keeps obs s (storeOp v m s) := by
  intro t ht
  obtain ⟨ea, -, -, rfl⟩ := storeOp_eq_next.1 ht
  rw [hPC.advance, hMem]

theorem modifyMem_keeps {f : Byte → Byte} {flags : Byte → State → State} {m : MemMode} (hPC : IgnoresPC obs)
    (hMem : IgnoresMem obs) (hf : ∀ v t, obs (flags v t) = obs t) : Keeps obs s (modifyMem f flags m s) := by
  intro t ht
  obtain ⟨ea, -, -, rfl⟩ := modifyMem_eq_next.1 ht
  rw [hPC.advance, hf, hMem]

theorem branchOp_keeps {taken : Bool} {d : Int} (hPC : IgnoresPC obs) : Keeps obs s (branchOp taken d s) := by
  cases taken with
  | true => exact keeps_next (hPC _ _)
  | false => exact keeps_next (hPC.advance _ _)

/-! A result in a register, with N and Z from it. -/

theorem load_keeps {r : Reg} {src : Source} (hPC : IgnoresPC obs) (hr : IgnoresResult r obs) :
    Keeps obs s (load r src s) :=
  readOp_keeps hPC fun v => hr v v s

theorem logicOp_keeps {f : Byte → Byte → Byte} {src : Source} (hPC : IgnoresPC obs) (hr : IgnoresResult .a obs) :
    Keeps obs s (logicOp f src s) :=
  readOp_keeps hPC fun _ => hr _ _ s

theorem transfer_keeps {src dst : Reg} (hPC : IgnoresPC obs) (hr : IgnoresResult dst obs) :
    Keeps obs s (transfer src dst s) :=
  keeps_next ((hPC.advance _ _).trans (hr _ _ s))

theorem stepReg_keeps {r : Reg} {f : Byte → Byte} (hPC : IgnoresPC obs) (hr : IgnoresResult r obs) :
    Keeps obs s (stepReg r f s) :=
  keeps_next ((hPC.advance _ _).trans (hr _ _ s))

theorem shiftOp_acc_keeps {f : Bool → Byte → Shifted} (hPC : IgnoresPC obs)
    (hf : ∀ v r t, obs ((t.setReg .a v).setShiftFlags r) = obs t) : Keeps obs s (shiftOp f .acc s) :=
  keeps_next ((hPC.advance _ _).trans (hf _ _ s))

/-! The dispatch over the operand. -/

theorem onSource_keeps {op : Operand} {k : Source → State → Result State} (h : ∀ src, Keeps obs s (k src s)) :
    Keeps obs s (onSource op k s) := by
  unfold onSource
  split
  · exact h _
  · exact keeps_self

theorem onPlace_keeps {op : Operand} {k : Place → State → Result State} (h : ∀ p, Keeps obs s (k p s)) :
    Keeps obs s (onPlace op k s) := by
  unfold onPlace
  split
  · exact h _
  · exact keeps_self

theorem onMem_keeps {op : Operand} {k : MemMode → State → Result State} (h : ∀ m, Keeps obs s (k m s)) :
    Keeps obs s (onMem op k s) := by
  cases op with
  | mem m => exact h m
  | imp | acc | imm | rel | ind | iax => exact keeps_self

theorem onRel_keeps {op : Operand} {k : Int → State → Result State} (h : ∀ d, Keeps obs s (k d s)) :
    Keeps obs s (onRel op k s) := by
  cases op with
  | rel d => exact h d
  | imp | acc | imm | mem | ind | iax => exact keeps_self

theorem onAbs_keeps {op : Operand} {k : Addr → State → Result State} (h : ∀ a, Keeps obs s (k a s)) :
    Keeps obs s (onAbs op k s) := by
  unfold onAbs
  split
  · exact h _
  · exact keeps_self

/-! The stack. -/

theorem push_keeps {v : Byte} (hMem : IgnoresMem obs) (hS : IgnoresS obs) : Keeps obs s (push v s) := by
  intro t ht
  obtain ⟨-, rfl⟩ := push_eq_next.1 ht
  rw [hS, hMem]

theorem push16_keeps {w : Addr} (hMem : IgnoresMem obs) (hS : IgnoresS obs) : Keeps obs s (push16 w s) := by
  intro t ht
  obtain ⟨u, hu, ht⟩ := push16_eq_next.1 ht
  exact (push_keeps hMem hS t ht).trans (push_keeps hMem hS u hu)

theorem pull_keeps {p : Byte × State} (hS : IgnoresS obs) (h : pull s = .next p) : obs p.2 = obs s := by
  rw [(pull_eq_next.1 h).2, hS]

theorem pull16_keeps {p : Addr × State} (hS : IgnoresS obs) (h : pull16 s = .next p) : obs p.2 = obs s := by
  obtain ⟨lo, hi, hlo, hhi, rfl⟩ := pull16_eq_next.1 h
  exact (pull_keeps hS hhi).trans (pull_keeps hS hlo)

theorem pushOp_keeps {v : Byte} (hPC : IgnoresPC obs) (hMem : IgnoresMem obs) (hS : IgnoresS obs) :
    Keeps obs s (pushOp v s) :=
  andThen_keeps fun t ht => keeps_next ((hPC.advance _ t).trans (push_keeps hMem hS t ht))

theorem pullReg_keeps {r : Reg} (hPC : IgnoresPC obs) (hS : IgnoresS obs) (hr : IgnoresResult r obs) :
    Keeps obs s (pullReg r s) :=
  andThen_keeps fun _ hp => keeps_next (((hPC.advance _ _).trans (hr _ _ _)).trans (pull_keeps hS hp))

theorem pullFlags_keeps (hPC : IgnoresPC obs) (hS : IgnoresS obs) (hf : ∀ v t, obs (t.unpackP v) = obs t) :
    Keeps obs s (pullFlags s) :=
  andThen_keeps fun _ hp => keeps_next (((hPC.advance _ _).trans (hf _ _)).trans (pull_keeps hS hp))

/-! Jumps, calls and exceptions. -/

theorem jumpThrough_keeps {p : Addr} (hPC : IgnoresPC obs) : Keeps obs s (jumpThrough p s) :=
  andThen_keeps fun _ _ => keeps_next (hPC _ _)

theorem jump_keeps {op : Operand} (hPC : IgnoresPC obs) : Keeps obs s (jump op s) := by
  unfold jump
  split
  · exact keeps_next (hPC _ _)
  · exact jumpThrough_keeps hPC
  · exact jumpThrough_keeps hPC
  · exact keeps_self

theorem execJsr_keeps {a : Addr} (hPC : IgnoresPC obs) (hMem : IgnoresMem obs) (hS : IgnoresS obs) :
    Keeps obs s (execJsr a s) := by
  unfold execJsr
  split
  · nofun
  · exact andThen_keeps fun t ht => keeps_next ((hPC _ t).trans (push16_keeps hMem hS t ht))

theorem execRts_keeps (hPC : IgnoresPC obs) (hS : IgnoresS obs) : Keeps obs s (execRts s) :=
  andThen_keeps fun _ h => keeps_next ((hPC _ _).trans (pull16_keeps hS h))

theorem enterHandler_keeps {ret vector : Addr} {b : Bool} (hPC : IgnoresPC obs) (hMem : IgnoresMem obs)
    (hS : IgnoresS obs) (hf : ∀ t, obs ((t.setFlag .i true).setFlag .d false) = obs t) :
    Keeps obs s (enterHandler ret b vector s) := by
  intro t ht
  obtain ⟨u, p, handler, hu, hp, -, rfl⟩ := enterHandler_eq_next.1 ht
  rw [hPC, hf, push_keeps hMem hS p hp, push16_keeps hMem hS u hu]

theorem returnFromHandler_keeps (hPC : IgnoresPC obs) (hS : IgnoresS obs)
    (hf : ∀ v t, obs (t.unpackP v) = obs t) : Keeps obs s (returnFromHandler s) := by
  intro t ht
  obtain ⟨p, ret, hp, hret, rfl⟩ := returnFromHandler_eq_next.1 ht
  rw [hPC, pull16_keeps hS hret, hf, pull_keeps hS hp]

end Operations

/-! ## The flags through the updates -/

section FlagFrames

variable {f : Flag}

theorem flag_ignoresPC : IgnoresPC (State.flag f) := fun _ _ => by cases f <;> rfl

theorem flag_ignoresMem : IgnoresMem (State.flag f) := fun _ _ _ => by cases f <;> rfl

theorem flag_ignoresS : IgnoresS (State.flag f) := fun v s => flag_setReg s .s v f

theorem flag_setNZ (h : f ∉ [Flag.n, Flag.z]) (v : Byte) (s : State) : (s.setNZ v).flag f = s.flag f := by
  cases f with
  | n | z => simp at h
  | v | d | i | c => rfl

theorem flag_ignoresResult (h : f ∉ [Flag.n, Flag.z]) (r : Reg) : IgnoresResult r (State.flag f) := fun _ _ _ => by
  rw [flag_setNZ h, flag_setReg]

theorem flag_setFlag_setNZ (h : f ∉ [Flag.n, Flag.z, Flag.c]) (b : Bool) (v : Byte) (s : State) :
    ((s.setFlag .c b).setNZ v).flag f = s.flag f := by
  simp only [List.mem_cons, List.not_mem_nil, or_false, not_or] at h
  rw [flag_setNZ (by simp [h]), flag_setFlag_ne _ _ _ _ h.2.2]

theorem flag_setShiftFlags (h : f ∉ [Flag.n, Flag.z, Flag.c]) (r : Shifted) (s : State) :
    (s.setShiftFlags r).flag f = s.flag f :=
  flag_setFlag_setNZ h _ _ s

theorem flag_setCompareFlags (h : f ∉ [Flag.n, Flag.z, Flag.c]) (r m : Byte) (s : State) :
    (s.setCompareFlags r m).flag f = s.flag f :=
  flag_setFlag_setNZ h _ _ s

theorem flag_setTestZ (h : f ∉ [Flag.z]) (m : Byte) (s : State) : (s.setTestZ m).flag f = s.flag f :=
  flag_setFlag_ne _ _ _ _ (by simpa using h)

theorem flag_setBitFlags (h : f ∉ [Flag.n, Flag.v, Flag.z]) (m : Byte) (s : State) :
    (s.setBitFlags m).flag f = s.flag f := by
  cases f with
  | n | v | z => simp at h
  | d | i | c => rfl

theorem flag_setSum (h : f ∉ [Flag.n, Flag.v, Flag.z, Flag.c]) (r : Sum) (s : State) :
    (s.setSum r).flag f = s.flag f := by
  cases f with
  | n | v | z | c => simp at h
  | d | i => rfl

theorem flag_nextDraw (s : State) : s.nextDraw.flag f = s.flag f := by cases f <;> rfl

theorem flag_addWithCarry (h : f ∉ [Flag.n, Flag.v, Flag.z, Flag.c]) (m : Byte) (s : State) :
    (s.addWithCarry m).flag f = s.flag f := by
  unfold State.addWithCarry
  split
  · rw [flag_setSum h, flag_nextDraw]
  · exact flag_setSum h _ s

theorem flag_subWithBorrow (h : f ∉ [Flag.n, Flag.v, Flag.z, Flag.c]) (m : Byte) (s : State) :
    (s.subWithBorrow m).flag f = s.flag f := by
  unfold State.subWithBorrow
  split
  · rw [flag_setSum h, flag_nextDraw]
  · exact flag_setSum h _ s

theorem flag_setFlag_i_setFlag_d (h : f ∉ [Flag.i, Flag.d]) (b c : Bool) (s : State) :
    ((s.setFlag .i b).setFlag .d c).flag f = s.flag f := by
  simp only [List.mem_cons, List.not_mem_nil, or_false, not_or] at h
  rw [flag_setFlag_ne _ _ _ _ h.2, flag_setFlag_ne _ _ _ _ h.1]

theorem flag_mem_all : f ∈ [Flag.n, Flag.v, Flag.d, Flag.i, Flag.z, Flag.c] := by cases f <;> decide

/-! What the operations do to a flag. -/

variable {s : State}

theorem shiftOp_keepsFlag {g : Bool → Byte → Shifted} {p : Place} (h : f ∉ [Flag.n, Flag.z, Flag.c]) :
    Keeps (State.flag f) s (shiftOp g p s) := by
  cases p with
  | acc => exact shiftOp_acc_keeps flag_ignoresPC fun v r t => (flag_setShiftFlags h r _).trans (flag_setReg t .a v f)
  | mem m => exact modifyMem_keeps flag_ignoresPC flag_ignoresMem fun _ => flag_setShiftFlags h _

theorem flagOp_keepsFlag {g : Flag} {b : Bool} (h : f ∉ [g]) : Keeps (State.flag f) s (flagOp g b s) :=
  impliedOp_keeps flag_ignoresPC fun _ => flag_setFlag_ne _ _ _ _ (by simpa using h)

/-- The table of flags written is complete (10_state.md R18). -/
theorem exec_keepsFlag {i : Instr} (h : f ∉ flagsWritten i) : Keeps (State.flag f) s (exec i s) := by
  rw [exec_eq_meaningOf]
  unfold flagsWritten at h
  generalize i.mnemonic = m at h ⊢
  generalize i.operand = op at h ⊢
  cases m with
  | lda | ldx | ldy => exact onSource_keeps fun _ => load_keeps flag_ignoresPC (flag_ignoresResult h _)
  | and | ora | eor => exact onSource_keeps fun _ => logicOp_keeps flag_ignoresPC (flag_ignoresResult h _)
  | sta | stx | sty | stz => exact onMem_keeps fun _ => storeOp_keeps flag_ignoresPC flag_ignoresMem
  | pha | phx | phy | php => exact pushOp_keeps flag_ignoresPC flag_ignoresMem flag_ignoresS
  | pla | plx | ply => exact pullReg_keeps flag_ignoresPC flag_ignoresS (flag_ignoresResult h _)
  | plp | rti => exact absurd flag_mem_all h
  | tsx | tax | tay | txa | tya => exact transfer_keeps flag_ignoresPC (flag_ignoresResult h _)
  | ina | inx | iny =>
    exact stepReg_keeps (f := (· + 1)) flag_ignoresPC (flag_ignoresResult h _)
  | dea | dex | dey =>
    exact stepReg_keeps (f := (· - 1)) flag_ignoresPC (flag_ignoresResult h _)
  | txs => exact impliedOp_keeps flag_ignoresPC fun t => flag_setReg t _ _ f
  | inc | dec => exact onMem_keeps fun _ => modifyMem_keeps flag_ignoresPC flag_ignoresMem fun _ => flag_setNZ h _
  | asl | lsr | rol | ror => exact onPlace_keeps fun _ => shiftOp_keepsFlag h
  | bit =>
    cases op with
    | imm v => exact readOp_keeps (src := .imm v) flag_ignoresPC fun v => flag_setTestZ h v s
    | mem m => exact readOp_keeps flag_ignoresPC fun v => flag_setBitFlags h v s
    | imp | acc | rel | ind | iax => exact keeps_self
  | cmp | cpx | cpy => exact onSource_keeps fun _ => readOp_keeps flag_ignoresPC fun v => flag_setCompareFlags h _ v s
  | trb | tsb => exact onMem_keeps fun _ => modifyMem_keeps flag_ignoresPC flag_ignoresMem (flag_setTestZ h)
  | adc => exact onSource_keeps fun _ => readOp_keeps flag_ignoresPC fun v => flag_addWithCarry h v s
  | sbc => exact onSource_keeps fun _ => readOp_keeps flag_ignoresPC fun v => flag_subWithBorrow h v s
  | jmp => exact jump_keeps flag_ignoresPC
  | jsr => exact onAbs_keeps fun _ => execJsr_keeps flag_ignoresPC flag_ignoresMem flag_ignoresS
  | rts => exact execRts_keeps flag_ignoresPC flag_ignoresS
  | bra | beq | bne | bcc | bcs | bvc | bvs | bmi | bpl => exact onRel_keeps fun _ => branchOp_keeps flag_ignoresPC
  | clc | cld | cli | clv | sec | sed | sei => exact flagOp_keepsFlag h
  | nop => exact impliedOp_keeps flag_ignoresPC fun _ => rfl
  | brk => exact enterHandler_keeps flag_ignoresPC flag_ignoresMem flag_ignoresS (flag_setFlag_i_setFlag_d h _ _)

end FlagFrames

/-! ## The registers through the updates -/

section RegFrames

open List (ne_of_not_mem_cons not_mem_of_not_mem_cons)

variable {r : Reg}

theorem reg_ignoresPC : IgnoresPC (State.reg r) := fun _ _ => by cases r <;> rfl

theorem reg_ignoresMem : IgnoresMem (State.reg r) := fun _ _ _ => by cases r <;> rfl

theorem reg_ignoresS (h : r ≠ .s) : IgnoresS (State.reg r) := fun v s => reg_setReg_ne s .s r v h

@[simp] theorem reg_setNZ (v : Byte) (s : State) : (s.setNZ v).reg r = s.reg r := by cases r <;> rfl

@[simp] theorem reg_unpackP (v : Byte) (s : State) : (s.unpackP v).reg r = s.reg r := by cases r <;> rfl

@[simp] theorem reg_setShiftFlags (x : Shifted) (s : State) : (s.setShiftFlags x).reg r = s.reg r := by
  simp [State.setShiftFlags]

@[simp] theorem reg_setCompareFlags (x m : Byte) (s : State) : (s.setCompareFlags x m).reg r = s.reg r := by
  simp [State.setCompareFlags]

@[simp] theorem reg_setTestZ (m : Byte) (s : State) : (s.setTestZ m).reg r = s.reg r := by simp [State.setTestZ]

@[simp] theorem reg_setBitFlags (m : Byte) (s : State) : (s.setBitFlags m).reg r = s.reg r := by
  simp [State.setBitFlags]

@[simp] theorem reg_nextDraw (s : State) : s.nextDraw.reg r = s.reg r := by cases r <;> rfl

theorem reg_setSum (h : r ≠ .a) (x : Sum) (s : State) : (s.setSum x).reg r = s.reg r := by
  cases r with
  | a => exact absurd rfl h
  | x | y | s => rfl

theorem reg_addWithCarry (h : r ≠ .a) (m : Byte) (s : State) : (s.addWithCarry m).reg r = s.reg r := by
  unfold State.addWithCarry
  split
  · rw [reg_setSum h, reg_nextDraw]
  · exact reg_setSum h _ s

theorem reg_subWithBorrow (h : r ≠ .a) (m : Byte) (s : State) : (s.subWithBorrow m).reg r = s.reg r := by
  unfold State.subWithBorrow
  split
  · rw [reg_setSum h, reg_nextDraw]
  · exact reg_setSum h _ s

theorem reg_ignoresResult {q : Reg} (h : r ≠ q) : IgnoresResult q (State.reg r) := fun _ _ _ => by
  rw [reg_setNZ, reg_setReg_ne _ _ _ _ h]

/-! What the operations do to a register. -/

variable {s : State}

theorem shiftOp_acc_keepsReg {g : Bool → Byte → Shifted} (h : r ≠ .a) : Keeps (State.reg r) s (shiftOp g .acc s) :=
  shiftOp_acc_keeps reg_ignoresPC fun v x t => (reg_setShiftFlags x _).trans (reg_setReg_ne t .a r v h)

theorem shiftOp_mem_keepsReg {g : Bool → Byte → Shifted} {m : MemMode} :
    Keeps (State.reg r) s (shiftOp g (.mem m) s) :=
  modifyMem_keeps reg_ignoresPC reg_ignoresMem fun _ => reg_setShiftFlags _

theorem bitTest_keepsReg {src : Source} : Keeps (State.reg r) s (bitTest src s) := by
  cases src with
  | imm v => exact readOp_keeps reg_ignoresPC fun v => reg_setTestZ v s
  | mem m => exact readOp_keeps reg_ignoresPC fun v => reg_setBitFlags v s

/-- The access table of the registers is complete (10_state.md R10 to R13). -/
theorem exec_keepsReg {i : Instr} (h : r ∉ registersWritten i) : Keeps (State.reg r) s (exec i s) := by
  rw [exec_eq_meaningOf]
  unfold registersWritten at h
  generalize i.mnemonic = m at h ⊢
  generalize i.operand = op at h ⊢
  cases m with
  | lda | ldx | ldy =>
    exact onSource_keeps fun _ => load_keeps reg_ignoresPC (reg_ignoresResult (ne_of_not_mem_cons h))
  | and | ora | eor =>
    exact onSource_keeps fun _ => logicOp_keeps reg_ignoresPC (reg_ignoresResult (ne_of_not_mem_cons h))
  | sta | stx | sty | stz => exact onMem_keeps fun _ => storeOp_keeps reg_ignoresPC reg_ignoresMem
  | pha | phx | phy | php =>
    exact pushOp_keeps reg_ignoresPC reg_ignoresMem (reg_ignoresS (ne_of_not_mem_cons h))
  | pla | plx | ply =>
    have hS := reg_ignoresS (ne_of_not_mem_cons (not_mem_of_not_mem_cons h))
    exact pullReg_keeps reg_ignoresPC hS (reg_ignoresResult (ne_of_not_mem_cons h))
  | plp => exact pullFlags_keeps reg_ignoresPC (reg_ignoresS (ne_of_not_mem_cons h)) reg_unpackP
  | tsx | tax | tay | txa | tya =>
    exact transfer_keeps reg_ignoresPC (reg_ignoresResult (ne_of_not_mem_cons h))
  | ina | inx | iny =>
    exact stepReg_keeps (f := (· + 1)) reg_ignoresPC (reg_ignoresResult (ne_of_not_mem_cons h))
  | dea | dex | dey =>
    exact stepReg_keeps (f := (· - 1)) reg_ignoresPC (reg_ignoresResult (ne_of_not_mem_cons h))
  | txs => exact impliedOp_keeps reg_ignoresPC fun t => reg_setReg_ne t _ _ _ (ne_of_not_mem_cons h)
  | inc | dec => exact onMem_keeps fun _ => modifyMem_keeps reg_ignoresPC reg_ignoresMem fun _ => reg_setNZ _
  | asl | lsr | rol | ror =>
    cases op with
    | acc => exact shiftOp_acc_keepsReg (ne_of_not_mem_cons h)
    | mem m => exact shiftOp_mem_keepsReg
    | imp | imm | rel | ind | iax => exact keeps_self
  | bit => exact onSource_keeps fun _ => bitTest_keepsReg
  | cmp | cpx | cpy => exact onSource_keeps fun _ => readOp_keeps reg_ignoresPC fun v => reg_setCompareFlags _ v s
  | trb | tsb => exact onMem_keeps fun _ => modifyMem_keeps reg_ignoresPC reg_ignoresMem reg_setTestZ
  | adc =>
    have hA := ne_of_not_mem_cons h
    exact onSource_keeps fun _ => readOp_keeps reg_ignoresPC fun v => reg_addWithCarry hA v s
  | sbc =>
    have hA := ne_of_not_mem_cons h
    exact onSource_keeps fun _ => readOp_keeps reg_ignoresPC fun v => reg_subWithBorrow hA v s
  | jmp => exact jump_keeps reg_ignoresPC
  | jsr =>
    have hS := reg_ignoresS (ne_of_not_mem_cons h)
    exact onAbs_keeps fun _ => execJsr_keeps reg_ignoresPC reg_ignoresMem hS
  | rts => exact execRts_keeps reg_ignoresPC (reg_ignoresS (ne_of_not_mem_cons h))
  | rti => exact returnFromHandler_keeps reg_ignoresPC (reg_ignoresS (ne_of_not_mem_cons h)) reg_unpackP
  | bra | beq | bne | bcc | bcs | bvc | bvs | bmi | bpl => exact onRel_keeps fun _ => branchOp_keeps reg_ignoresPC
  | clc | cld | cli | clv | sec | sed | sei => exact impliedOp_keeps reg_ignoresPC fun t => reg_setFlag t _ _ r
  | nop => exact impliedOp_keeps reg_ignoresPC fun _ => rfl
  | brk =>
    have hS := reg_ignoresS (ne_of_not_mem_cons h)
    exact enterHandler_keeps reg_ignoresPC reg_ignoresMem hS fun t => by rw [reg_setFlag, reg_setFlag]

end RegFrames

/-! ## The stack in page 1 -/

/-- The stack address that S denotes is `$0100 + S` (10_state.md R13). -/
theorem stackAddr_toNat (b : Byte) : (stackAddr b).toNat = 0x100 + b.toNat :=
  (BitVec.toNat_append 0x01#8 b).trans (Nat.shiftLeft_add_eq_or_of_lt b.isLt 0x01).symm

/-- A pull right after a push reads the byte where it was stored (10_state.md R15, R16). -/
theorem pull_after_push {v : Byte} {s t : State} (h : push v s = .next t) :
    pull t = .next (v, { t with S := s.S }) := by
  obtain ⟨hram, rfl⟩ := push_eq_next.1 h
  have hS : ((s.poke (stackAddr s.S) v).setReg .s (s.S - 1)).S + 1 = s.S := BitVec.sub_add_cancel _ _
  rw [pull_eq_next, hS]
  exact ⟨readByte_eq_next.2 ⟨.inl hram, (peek_poke_self _ v s).symm⟩, rfl⟩

end Sys2Proof.Machine

namespace Sys2Proof.Proofs

open Sys2Proof.Machine

/-- Settles O50, by the frame of each shared operation over the flags, mnemonic by mnemonic. -/
theorem onlyListedFlagsChange : Obligations.OnlyListedFlagsChange :=
  fun _ _ t _ ht h => exec_keepsFlag h t ht

/-- Settles O51, by the frame of each shared operation over the registers, mnemonic by mnemonic. -/
theorem onlyListedRegistersChange : Obligations.OnlyListedRegistersChange :=
  fun _ _ t _ ht h => exec_keepsReg h t ht

/-- Settles O16: the state after the push is that of `push_eq_next`, and the pull finds S back at the byte's address. -/
theorem pullUndoesPush : Obligations.PullUndoesPush := by
  intro s v hram
  have hpush : push v s = .next ((s.poke (stackAddr s.S) v).setReg .s (s.S - 1)) := push_eq_next.2 ⟨hram, rfl⟩
  exact ⟨_, hpush, rfl, peek_poke_self _ v s, fun _ ha => peek_poke_ne v s ha, pull_after_push hpush,
    stackAddr_toNat s.S⟩

end Sys2Proof.Proofs
end

section
/-! SUPPORT. The encoding. A row of the opcode map is faithful to its columns, so what decodes is read from its own encoding;
each constructor is read back from its encoding; and the effective addresses as numbers. -/

namespace Sys2Proof

/-! ## The operand bytes of a format -/

@[simp] theorem rel8_toInt (b : Byte) : rel8 b.toInt = b := BitVec.ofInt_toInt

theorem toInt_rel8 {d : Int} (h : displacementFits d = true) : (rel8 d).toInt = d := by
  simp only [displacementFits, Bool.and_eq_true, decide_eq_true_eq] at h
  rw [rel8, BitVec.toInt_ofInt, Int.bmod_eq_of_le] <;> omega

@[simp] theorem displacementFits_toInt (b : Byte) : displacementFits b.toInt = true := by
  have hlo := BitVec.le_toInt b
  have hhi := BitVec.toInt_lt (x := b)
  simp only [displacementFits, Bool.and_eq_true, decide_eq_true_eq]
  omega

/-- The operand that a format reads from the two bytes after the opcode byte (30_encoding.md R61). -/
def Format.read (b1 b2 : Byte) : Format → Operand
  | .imp => .imp
  | .acc => .acc
  | .imm => .imm b1
  | .zpg => .mem (.zpg b1)
  | .zpx => .mem (.zpx b1)
  | .zpy => .mem (.zpy b1)
  | .rel => .rel b1.toInt
  | .izx => .mem (.izx b1)
  | .izy => .mem (.izy b1)
  | .izp => .mem (.izp b1)
  | .abs => .mem (.abs (word16 b2 b1))
  | .abx => .mem (.abx (word16 b2 b1))
  | .aby => .mem (.aby (word16 b2 b1))
  | .ind => .ind (word16 b2 b1)
  | .iax => .iax (word16 b2 b1)

/-- The bytes that an operand puts after the opcode byte: a 16-bit address low byte first (30_encoding.md R61). -/
def Operand.bytes : Operand → List Byte
  | .imp | .acc => []
  | .imm b | .mem (.zpg b) | .mem (.zpx b) | .mem (.zpy b) | .mem (.izx b) | .mem (.izy b) | .mem (.izp b) => [b]
  | .rel d => [rel8 d]
  | .mem (.abs a) | .mem (.abx a) | .mem (.aby a) | .ind a | .iax a => [lo8 a, hi8 a]

/-- The operand has bytes that stand for it: only a displacement can be out of range (30_encoding.md R79). -/
def Operand.fits : Operand → Bool
  | .rel d => displacementFits d
  | _ => true

@[simp] theorem format_read (f : Format) (b1 b2 : Byte) : (f.read b1 b2).format = f := by cases f <;> rfl

theorem bytes_read (f : Format) (b1 b2 : Byte) : (f.read b1 b2).bytes = [b1, b2].take (f.size - 1) := by
  cases f <;> simp [Format.read, Operand.bytes, Format.size]

@[simp] theorem fits_read (f : Format) (b1 b2 : Byte) : (f.read b1 b2).fits = true := by
  cases f <;> simp [Format.read, Operand.fits]

/-! ## The rows of the opcode map -/

/-- The row builds the instruction of its own columns: its mnemonic, its format's operand, its opcode byte. -/
structure OpRow.Faithful (r : OpRow) (b1 b2 : Byte) : Prop where
  mnemonic : (r.build b1 b2).mnemonic = r.mnemonic
  operand : (r.build b1 b2).operand = r.format.read b1 b2
  encode : encode (r.build b1 b2) = r.opcode :: (r.format.read b1 b2).bytes
  wellFormed : (r.build b1 b2).wellFormed = (r.format.read b1 b2).fits

/-- Every row of the opcode map builds what its columns say, whatever the operand bytes (30_encoding.md R63). -/
theorem faithful_of_mem {r : OpRow} (hr : r ∈ opcodeRows) (b1 b2 : Byte) : r.Faithful b1 b2 := by
  revert r
  simp only [opcodeRows, rowsLoadStore, rowsStack, rowsIncDec, rowsShift, rowsLogical, rowsMath, rowsFlow, rowsStatus,
    rowsTransfer, rowsMisc, List.forall_mem_append, List.forall_mem_cons, List.not_mem_nil,
    false_implies, implies_true, and_true]
  and_intros
  all_goals exact ⟨rfl, rfl, rfl, rfl⟩

theorem size_build {r : OpRow} (hr : r ∈ opcodeRows) (b1 b2 : Byte) : (r.build b1 b2).size = r.format.size := by
  rw [Instr.size, (faithful_of_mem hr b1 b2).operand, format_read]

theorem encode_build {r : OpRow} (hr : r ∈ opcodeRows) (b1 b2 : Byte) :
    encode (r.build b1 b2) = [r.opcode, b1, b2].take r.format.size := by
  rw [(faithful_of_mem hr b1 b2).encode, bytes_read]
  cases r.format <;> rfl

theorem wellFormed_build {r : OpRow} (hr : r ∈ opcodeRows) (b1 b2 : Byte) : (r.build b1 b2).wellFormed = true := by
  rw [(faithful_of_mem hr b1 b2).wellFormed, fits_read]

theorem findRow_eq_some {b : Byte} {r : OpRow} (h : findRow b = some r) : r ∈ opcodeRows ∧ r.opcode = b :=
  ⟨List.mem_of_find?_eq_some h, by simpa using List.find?_some h⟩

/-! ## The decoder -/

/-- Bytes that decode begin with the opcode byte of a row and as many operand bytes as its format has
(30_encoding.md R60, R61). -/
theorem decode_eq_ok {bytes rest : List Byte} {i : Instr} (h : decode bytes = .ok (i, rest)) :
    ∃ row, findRow row.opcode = some row ∧
      ((row.format.size = 1 ∧ bytes = row.opcode :: rest ∧ i = row.build 0 0) ∨
        (row.format.size = 2 ∧ ∃ b1, bytes = row.opcode :: b1 :: rest ∧ i = row.build b1 0) ∨
        (row.format.size = 3 ∧ ∃ b1 b2, bytes = row.opcode :: b1 :: b2 :: rest ∧ i = row.build b1 b2)) := by
  unfold decode at h
  split at h
  · cases h
  next b0 tail =>
    split at h
    · cases h
    next row hrow =>
      obtain ⟨-, rfl⟩ := findRow_eq_some hrow
      refine ⟨row, hrow, ?_⟩
      split at h <;> cases h
      next hsize => exact .inl ⟨hsize, rfl, rfl⟩
      next b1 hsize => exact .inr (.inl ⟨hsize, b1, rfl, rfl⟩)
      next b1 b2 hsize => exact .inr (.inr ⟨hsize, b1, b2, rfl, rfl⟩)

/-- An address operand is read back from its two bytes. -/
theorem decode_encode_address {op : Byte} {mk : Addr → Instr} {rest : List Byte} (a : Addr)
    (h : ∀ b1 b2, decode (op :: b1 :: b2 :: rest) = .ok (mk (word16 b2 b1), rest)) :
    decode (op :: lo8 a :: hi8 a :: rest) = .ok (mk a, rest) := by
  rw [h, word16_hi8_lo8]

/-- A displacement in range is read back from its byte (30_encoding.md R79). -/
theorem decode_encode_displacement {op : Byte} {mk : Int → Instr} {rest : List Byte} {d : Int}
    (hd : displacementFits d = true) (h : ∀ b, decode (op :: b :: rest) = .ok (mk b.toInt, rest)) :
    decode (op :: rel8 d :: rest) = .ok (mk d, rest) := by
  rw [h, toInt_rel8 hd]

/-- The decoder reads an instruction back from its encoding: by computation where the operand is absent or a byte. -/
theorem decode_encode {i : Instr} (rest : List Byte) (h : i.wellFormed = true) :
    decode (encode i ++ rest) = .ok (i, rest) := by
  cases i with
  | bra d | beq d | bne d | bcc d | bcs d | bvc d | bvs d | bmi d | bpl d =>
    exact decode_encode_displacement h fun _ => rfl
  | ldaAbs a | ldaAbx a | ldaAby a | ldxAbs a | ldxAby a | ldyAbs a | ldyAbx a | staAbs a | staAbx a | staAby a
  | stxAbs a | styAbs a | stzAbs a | stzAbx a | incAbs a | incAbx a | decAbs a | decAbx a | aslAbs a | aslAbx a
  | lsrAbs a | lsrAbx a | rolAbs a | rolAbx a | rorAbs a | rorAbx a | andAbs a | andAbx a | andAby a | oraAbs a
  | oraAbx a | oraAby a | eorAbs a | eorAbx a | eorAby a | bitAbs a | bitAbx a | cmpAbs a | cmpAbx a | cmpAby a
  | cpxAbs a | cpyAbs a | trbAbs a | tsbAbs a | adcAbs a | adcAbx a | adcAby a | sbcAbs a | sbcAbx a | sbcAby a
  | jmpAbs a | jmpInd a | jmpIax a | jsr a =>
    exact decode_encode_address a fun _ _ => rfl
  | _ => rfl

/-- Bytes that decode are the encoding of what they decode to, and what follows it. -/
theorem encode_decode {bytes rest : List Byte} {i : Instr} (h : decode bytes = .ok (i, rest)) :
    i.wellFormed = true ∧ encode i ++ rest = bytes := by
  obtain ⟨row, hrow, hcases⟩ := decode_eq_ok h
  have hmem := (findRow_eq_some hrow).1
  obtain ⟨hsize, rfl, rfl⟩ | ⟨hsize, b1, rfl, rfl⟩ | ⟨hsize, b1, b2, rfl, rfl⟩ := hcases <;>
    exact ⟨wellFormed_build hmem _ _, by rw [encode_build hmem, hsize]; rfl⟩

/-! ## Distinct opcodes -/

/-- No byte of the list has its bit in `seen`, and none comes twice; each one seen is added to the bits. -/
def freshFrom (seen : Nat) : List Byte → Bool
  | [] => true
  | b :: l => !seen.testBit b.toNat && freshFrom (seen ||| 2 ^ b.toNat) l

theorem freshFrom_spec {seen : Nat} {l : List Byte} (h : freshFrom seen l = true) :
    (∀ b ∈ l, seen.testBit b.toNat = false) ∧ l.Nodup := by
  induction l generalizing seen with
  | nil => simp
  | cons b l ih =>
    simp only [freshFrom, Bool.and_eq_true, Bool.not_eq_true'] at h
    obtain ⟨hb, hl⟩ := h
    obtain ⟨hseen, hnodup⟩ := ih hl
    simp only [Nat.testBit_or, Bool.or_eq_false_iff] at hseen
    refine ⟨List.forall_mem_cons.2 ⟨hb, fun c hc => (hseen c hc).1⟩, List.nodup_cons.2 ⟨fun hmem => ?_, hnodup⟩⟩
    simpa using (hseen b hmem).2

theorem opcodes_nodup : (opcodeRows.map (·.opcode)).Nodup :=
  (freshFrom_spec (seen := 0) (by decide)).2

theorem opcode_low_half : ∀ r ∈ opcodeRows, r.opcode.toNat % 16 ∉ [3, 7, 11, 15] := by
  have h : opcodeRows.all (fun r => r.opcode.toNat % 16 ∉ [3, 7, 11, 15]) = true := by decide
  simpa using h

namespace Machine

/-- Where the bytes at PC decode to an instruction, the fetch answers it (30_encoding.md R60). -/
theorem fetch_of_decode {t : State} {bytes rest : List Byte} {i : Instr} (h : decode bytes = .ok (i, rest))
    (hread : ∀ k, k < i.size → readByte (t.PC + BitVec.ofNat 16 k) t = .next (bytes.getD k 0)) :
    fetch t = .next i := by
  obtain ⟨row, hrow, hcases⟩ := decode_eq_ok h
  have hmem := (findRow_eq_some hrow).1
  obtain ⟨hsize, rfl, rfl⟩ | ⟨hsize, b1, rfl, rfl⟩ | ⟨hsize, b1, b2, rfl, rfl⟩ := hcases <;>
    simp only [size_build hmem, hsize, Nat.forall_lt_succ_right, BitVec.add_zero] at hread <;>
    simp [fetch, hread, hrow, hsize]

/-! ## Effective addresses as numbers -/

theorem word16_eq_ofNat (hi lo : Byte) : word16 hi lo = BitVec.ofNat 16 (lo.toNat + 256 * hi.toNat) := by
  have happ : (word16 hi lo).toNat = hi.toNat <<< 8 ||| lo.toNat := BitVec.toNat_append hi lo
  apply BitVec.eq_of_toNat_eq
  rw [happ, ← Nat.shiftLeft_add_eq_or_of_lt lo.isLt, BitVec.toNat_ofNat]
  omega

theorem zeroPage_eq_ofNat (zp : Byte) : zeroPage zp = BitVec.ofNat 16 zp.toNat := (BitVec.ofNat_toNat 16 zp).symm

/-- A sum in page zero has no carry into the high byte (30_encoding.md R75). -/
theorem zeroPage_add (a b : Byte) : zeroPage (a + b) = BitVec.ofNat 16 ((a.toNat + b.toNat) % 256) := by
  rw [zeroPage_eq_ofNat, BitVec.toNat_add]

theorem add_setWidth_eq_ofNat (a : Addr) (x : Byte) :
    a + x.setWidth 16 = BitVec.ofNat 16 ((a.toNat + x.toNat) % 65536) := by
  apply BitVec.eq_of_toNat_eq
  simp [BitVec.toNat_add]

/-- A pointer in page zero, from the two bytes its addresses hold (20_memory.md R44). -/
theorem read16ZP_of_readByte {zp lo hi : Byte} {s : State} (hlo : readByte (BitVec.ofNat 16 zp.toNat) s = .next lo)
    (hhi : readByte (BitVec.ofNat 16 ((zp.toNat + 1) % 256)) s = .next hi) :
    read16ZP zp s = .next (BitVec.ofNat 16 (lo.toNat + 256 * hi.toNat)) := by
  rw [← zeroPage_eq_ofNat] at hlo
  have hnext : BitVec.ofNat 16 ((zp.toNat + 1) % 256) = zeroPage (zp + 1) := (zeroPage_add zp 1).symm
  rw [hnext] at hhi
  exact read16ZP_eq_next.2 ⟨lo, hi, hlo, hhi, (word16_eq_ofNat hi lo).symm⟩

end Machine

end Sys2Proof

namespace Sys2Proof.Proofs

open Sys2Proof.Machine

/-- Settles O2: each constructor is read back, an address from its two bytes and a displacement from its one. -/
theorem decodeOfEncode : Obligations.DecodeOfEncode := fun _ rest h => decode_encode rest h

/-- Settles O3: the bytes begin with a row's opcode byte, and the row encodes what it builds to those bytes. -/
theorem encodeOfDecode : Obligations.EncodeOfDecode := fun _ _ _ h => encode_decode h

/-- Settles O48: sums of bytes in page zero drop their carry, and the pointer's bytes are read there. -/
theorem effectiveAddressesOfModes : Obligations.EffectiveAddressesOfModes := by
  intro s v zp a
  refine ⟨rfl, rfl, congrArg _ (zeroPage_eq_ofNat zp), congrArg _ (zeroPage_add zp s.X),
    congrArg _ (zeroPage_add zp s.Y), fun lo hi hlo hhi => read16ZP_of_readByte ?_ ?_⟩
  · rwa [BitVec.toNat_add]
  · rwa [BitVec.toNat_add, Nat.mod_add_mod]

/-- Settles O49: the pointer of page zero as in O48, and sums of 16 bits modulo 65536. -/
theorem indexedAddressesWrap : Obligations.IndexedAddressesWrap := by
  intro s zp a
  refine ⟨fun lo hi hlo hhi => read16ZP_of_readByte hlo hhi, congrArg _ (add_setWidth_eq_ofNat a s.X),
    congrArg _ (add_setWidth_eq_ofNat a s.Y), fun lo hi hlo hhi => ?_⟩
  rw [effectiveAddress, read16ZP_of_readByte hlo hhi, andThen_next, add_setWidth_eq_ofNat]
  simp

/-- Settles O1: the decoder computes on each word. -/
theorem wordsOfEachFamilyDecode : Obligations.WordsOfEachFamilyDecode := by
  unfold Obligations.WordsOfEachFamilyDecode
  and_intros <;> rfl

/-- Settles O6: the checks of the opcode column, and the encoder's equation for each instruction. -/
theorem opcodeMapChecks : Obligations.OpcodeMapChecks := by
  refine ⟨rfl, opcodes_nodup, opcode_low_half, ?_⟩
  simp only [encode, rel8_toInt, and_self, implies_true]

/-- Settles O7: the fetch reads the bytes that decode. -/
theorem stepRunsDecodedInstruction : Obligations.StepRunsDecodedInstruction := by
  refine ⟨fun s t i bytes rest hb hd hread => ?_, fun s hreset hreq => ?_⟩
  · rw [step_of_instruction hb, runInstruction, fetch_of_decode hd hread, andThen_next]
  · simpa [hreset, hreq] using boundary_cases s

/-- Settles O56: the columns are those of the tables, and every row is faithful to them. -/
theorem mnemonicAndFormatColumns : Obligations.MnemonicAndFormatColumns :=
  ⟨by rfl, fun r hr b1 b2 =>
    have h := faithful_of_mem hr b1 b2
    ⟨h.mnemonic, by rw [h.operand, format_read], encode_build hr b1 b2⟩⟩

end Sys2Proof.Proofs
end

section
/-! SUPPORT. Loads and stores. The next state of every instruction that puts its operand into a register, and of every one
that stores a byte, said once over the operand; each mnemonic is then one instance. -/

namespace Sys2Proof.Machine

variable {i : Instr} {s : State}

/-! ## An instruction over a known operand -/

/-- An instruction whose mnemonic only reads its operand is that operation over the operand it has. -/
theorem exec_eq_of_source {k : Source → State → Result State} {src : Source}
    (hmean : meaningOf i.mnemonic i.operand s = onSource i.operand k s) (hsrc : i.operand.source? = some src) :
    exec i s = k src s := by
  rw [exec_eq_meaningOf, hmean, onSource, hsrc]

/-- An instruction whose mnemonic works on a byte of memory is that operation over the mode it has. -/
theorem exec_eq_of_mem {k : MemMode → State → Result State} {m : MemMode}
    (hmean : meaningOf i.mnemonic i.operand s = onMem i.operand k s) (hop : i.operand = .mem m) :
    exec i s = k m s := by
  rw [exec_eq_meaningOf, hmean, hop, onMem]

/-! ## Loads and stores -/

/-- A load of the byte `m` puts it into its register, sets N and Z from it and goes on (40_load_store.md R100 to R102). -/
theorem exec_load {r : Reg} {src : Source} {m : Byte}
    (hmean : meaningOf i.mnemonic i.operand s = onSource i.operand (load r) s) (hsrc : i.operand.source? = some src)
    (hread : readSource src s = .next m) : exec i s = .next (((s.setReg r m).setNZ m).advance i.size) := by
  rw [exec_eq_of_source hmean hsrc, Instr.size, ← source?_size hsrc]
  exact readOp_eq_next.2 ⟨m, hread, rfl⟩

/-- A store to plain memory changes the byte at the effective address and goes on (40_load_store.md R103 to R106). -/
theorem exec_store {v : Byte} {m : MemMode} {ea : Addr}
    (hmean : meaningOf i.mnemonic i.operand s = onMem i.operand (storeOp v) s) (hop : i.operand = .mem m)
    (hea : effectiveAddress m s = .next ea) (hram : s.kindOf ea = .ram) :
    exec i s = .next ((s.poke ea v).advance i.size) := by
  rw [exec_eq_of_mem hmean hop, Instr.size, hop]
  exact storeOp_eq_next.2 ⟨ea, hea, hram, rfl⟩

end Sys2Proof.Machine

namespace Sys2Proof.Proofs

open Sys2Proof.Machine

/-- Settles O25: each of the three mnemonics is the load of its register. -/
theorem loadsTakeTheOperand : Obligations.LoadsTakeTheOperand := by
  refine ⟨by simp only [encode, and_self, implies_true], fun i src s m hsrc hread =>
    ⟨fun h => ?_, fun h => ?_, fun h => ?_⟩⟩
  · exact exec_load (r := .a) (by rw [h, meaningOf]) hsrc hread
  · exact exec_load (r := .x) (by rw [h, meaningOf]) hsrc hread
  · exact exec_load (r := .y) (by rw [h, meaningOf]) hsrc hread

/-- Settles O26: each of the four mnemonics is the store of its byte. -/
theorem storesWriteOneByte : Obligations.StoresWriteOneByte := by
  refine ⟨by simp only [encode, and_self, implies_true], fun i m s ea hop hea hram =>
    ⟨fun h => ?_, fun h => ?_, fun h => ?_, fun h => ?_⟩⟩
  · exact exec_store (v := s.A) (by rw [h, meaningOf]) hop hea hram
  · exact exec_store (v := s.X) (by rw [h, meaningOf]) hop hea hram
  · exact exec_store (v := s.Y) (by rw [h, meaningOf]) hop hea hram
  · exact exec_store (v := 0x00) (by rw [h, meaningOf]) hop hea hram

end Sys2Proof.Proofs
end

section
/-! SUPPORT. The stack family. What a push and a pull do when they answer a next state, said once over the byte and the
register; each mnemonic is then one instance. -/

namespace Sys2Proof.Machine

variable {s t : State}

/-- An instruction that pushes stores its byte on plain memory, moves S down and goes on (41_stack.md R110 to R113). -/
theorem pushOp_eq_next {v : Byte} :
    pushOp v s = .next t ↔
      s.kindOf (stackAddr s.S) = .ram ∧ t = ((s.poke (stackAddr s.S) v).setReg .s (s.S - 1)).advance 1 := by
  simp only [pushOp, andThen_eq_next, next_eq_next, push_eq_next, and_assoc, exists_and_left, exists_eq_left]

/-- What follows a pull has the byte above S and the state with S moved up (10_state.md R16). -/
theorem andThen_pull_eq_next {k : Byte × State → State} :
    andThen (pull s) (fun p => .next (k p)) = .next t ↔
      ∃ m, readByte (stackAddr (s.S + 1)) s = .next m ∧ t = k (m, s.setReg .s (s.S + 1)) := by
  simp only [andThen_eq_next, next_eq_next, pull_eq_next, Prod.exists, and_assoc, exists_and_left, exists_eq_left]

/-- A pull into a register: N and Z follow the byte (41_stack.md R114 to R116). -/
theorem pullReg_eq_next {r : Reg} :
    pullReg r s = .next t ↔
      ∃ m, readByte (stackAddr (s.S + 1)) s = .next m ∧
        t = (((s.setReg .s (s.S + 1)).setReg r m).setNZ m).advance 1 :=
  andThen_pull_eq_next

/-- A pull into P: all six flags are bits of the byte (41_stack.md R117). -/
theorem pullFlags_eq_next :
    pullFlags s = .next t ↔
      ∃ m, readByte (stackAddr (s.S + 1)) s = .next m ∧ t = ((s.setReg .s (s.S + 1)).unpackP m).advance 1 :=
  andThen_pull_eq_next

end Sys2Proof.Machine

namespace Sys2Proof.Proofs

open Sys2Proof.Machine

/-- Settles O27: each of the four mnemonics is the push of its byte. -/
theorem pushesStoreAndLowerS : Obligations.PushesStoreAndLowerS := by
  refine fun s hram => ⟨?_, ?_, ?_, ?_⟩
  · exact pushOp_eq_next (v := s.A).2 ⟨hram, rfl⟩
  · exact pushOp_eq_next (v := s.X).2 ⟨hram, rfl⟩
  · exact pushOp_eq_next (v := s.Y).2 ⟨hram, rfl⟩
  · exact pushOp_eq_next (v := packP true s).2 ⟨hram, rfl⟩

/-- Settles O28: three of the mnemonics are the pull into their register, and PLP is the pull into the flags. -/
theorem pullsRaiseSAndRead : Obligations.PullsRaiseSAndRead := by
  refine fun s m hm => ⟨?_, ?_, ?_, ?_⟩
  · exact pullReg_eq_next (r := .a).2 ⟨m, hm, rfl⟩
  · exact pullReg_eq_next (r := .x).2 ⟨m, hm, rfl⟩
  · exact pullReg_eq_next (r := .y).2 ⟨m, hm, rfl⟩
  · exact pullFlags_eq_next.2 ⟨m, hm, rfl⟩

end Sys2Proof.Proofs
end

section
/-! SUPPORT. Increments and decrements. A step of a register and a step of a byte of memory, said once over the register, the
addressing mode and the step; each mnemonic is then one instance. -/

namespace Sys2Proof.Machine

variable {i : Instr} {s t : State} {f : Byte → Byte}

/-- A step of a register puts the stepped byte there, sets N and Z from it and goes on (42_inc_dec.md R130 to R135). -/
theorem stepReg_eq_next {r : Reg} :
    stepReg r f s = .next t ↔ t = ((s.setReg r (f (s.reg r))).setNZ (f (s.reg r))).advance 1 :=
  impliedOp_eq_next

/-- A step of a byte of plain memory stores the stepped byte at the effective address, sets N and Z from it and goes on
(42_inc_dec.md R136, R137). -/
theorem exec_stepMem {m : MemMode} {ea : Addr}
    (hmean : meaningOf i.mnemonic i.operand s = onMem i.operand (stepMem f) s) (hop : i.operand = .mem m)
    (hea : effectiveAddress m s = .next ea) (hram : s.kindOf ea = .ram) :
    exec i s = .next (((s.poke ea (f (s.peek ea))).setNZ (f (s.peek ea))).advance i.size) := by
  rw [exec_eq_of_mem hmean hop, Instr.size, hop]
  exact modifyMem_eq_next.2 ⟨ea, hea, hram, rfl⟩

end Sys2Proof.Machine

namespace Sys2Proof.Proofs

open Sys2Proof.Machine

/-- Settles O31: each of the two mnemonics is the step of the byte at the effective address. -/
theorem memoryStepsByOne : Obligations.MemoryStepsByOne := by
  refine ⟨by simp only [encode, and_self, implies_true], fun i m s ea hop hea hram => ⟨fun h => ?_, fun h => ?_⟩⟩
  · exact exec_stepMem (f := (· + 1)) (by rw [h, meaningOf]) hop hea hram
  · exact exec_stepMem (f := (· - 1)) (by rw [h, meaningOf]) hop hea hram

/-- Settles O30: each of the six mnemonics is the step of its register. -/
theorem registersStepByOne : Obligations.RegistersStepByOne := by
  refine ⟨rfl, rfl, rfl, rfl, rfl, rfl, fun s => ⟨?_, ?_, ?_, ?_, ?_, ?_⟩⟩
  · exact stepReg_eq_next (r := .a) (f := (· + 1)).2 rfl
  · exact stepReg_eq_next (r := .x) (f := (· + 1)).2 rfl
  · exact stepReg_eq_next (r := .y) (f := (· + 1)).2 rfl
  · exact stepReg_eq_next (r := .a) (f := (· - 1)).2 rfl
  · exact stepReg_eq_next (r := .x) (f := (· - 1)).2 rfl
  · exact stepReg_eq_next (r := .y) (f := (· - 1)).2 rfl

end Sys2Proof.Proofs
end

section
/-! SUPPORT. Shifts and rotates. The result byte of each as a number with the bit that leaves it, and the next state of a shift
of A or of a byte of memory, said once over the shift; each mnemonic is then one instance. -/

namespace Sys2Proof.Machine

/-- A shift or rotate gave the byte `v`, whose bit 7 is `n`, and let the bit `out` leave into C. -/
structure Shifted.Gives (x : Shifted) (v : Byte) (out n : Bool) : Prop where
  byte : x.r = v
  carry : x.c = out
  negative : v[7] = n

theorem bit_le_one (c : Bool) : bit c ≤ 1 := Bool.toNat_le c

/-- A bit of a byte, as the remainder of the byte's number. -/
theorem byte_getElem_eq_decide (v : Byte) (k : Nat) (hk : k < 8) : v[k] = decide (v.toNat / 2 ^ k % 2 = 1) := by
  rw [BitVec.getElem_eq_testBit_toNat, Nat.testBit_eq_decide_div_mod_eq]

/-! ## The four results as numbers -/

theorem shiftAsl_gives (c : Bool) (v : Byte) :
    (shiftAsl c v).Gives (BitVec.ofNat 8 (v.toNat * 2 % 256)) v[7] v[6] where
  byte := by
    apply BitVec.eq_of_toNat_eq
    simp [shiftAsl, Nat.shiftLeft_eq]
  carry := rfl
  negative := by
    simp only [byte_getElem_eq_decide, BitVec.toNat_ofNat, decide_eq_decide]
    omega

theorem shiftLsr_gives (c : Bool) (v : Byte) : (shiftLsr c v).Gives (BitVec.ofNat 8 (v.toNat / 2)) v[0] false where
  byte := by
    apply BitVec.eq_of_toNat_eq
    have hlt : v.toNat / 2 < 256 := by omega
    simp [shiftLsr, Nat.shiftRight_eq_div_pow, Nat.mod_eq_of_lt hlt]
  carry := rfl
  negative := by
    simp only [byte_getElem_eq_decide, BitVec.toNat_ofNat, decide_eq_false_iff_not]
    omega

/-- Nine bits wide: the old carry is the lowest bit of the doubled byte (43_shift.md R142). -/
theorem shiftRol_gives (c : Bool) (v : Byte) :
    (shiftRol c v).Gives (BitVec.ofNat 8 (v.toNat * 2 % 256 + bit c)) v[7] v[6] where
  byte := by
    apply BitVec.eq_of_toNat_eq
    simp [shiftRol, Nat.shiftLeft_eq, BitVec.toNat_add]
  carry := rfl
  negative := by
    have hbit := bit_le_one c
    simp only [byte_getElem_eq_decide, BitVec.toNat_ofNat, decide_eq_decide]
    omega

/-- Nine bits wide: the old carry is bit 7 above the halved byte (43_shift.md R143). -/
theorem shiftRor_gives (c : Bool) (v : Byte) :
    (shiftRor c v).Gives (BitVec.ofNat 8 (v.toNat / 2 + 128 * bit c)) v[0] c where
  byte := by
    apply BitVec.eq_of_toNat_eq
    simp [shiftRor, Nat.shiftRight_eq_div_pow, BitVec.toNat_add]
  carry := rfl
  negative := by
    have hlt := v.isLt
    simp only [byte_getElem_eq_decide, BitVec.toNat_ofNat]
    cases c with
    | false => exact decide_eq_false (by rw [bit, Bool.toNat_false]; omega)
    | true => exact decide_eq_true (by rw [bit, Bool.toNat_true]; omega)

/-! ## The next state -/

section NextState

variable {f : Bool → Byte → Shifted} {i : Instr} {s : State} {v : Byte} {out n : Bool}

/-- A shift of A: the result is put there, C, N and Z follow it, and the instruction after it is next. -/
theorem shiftOp_acc (h : (f s.C s.A).Gives v out n) :
    shiftOp f .acc s = .next { s with A := v, C := out, N := n, Z := v == 0, PC := s.PC + 1 } := by
  obtain ⟨rfl, rfl, rfl⟩ := h
  rfl

/-- A shift of a byte of plain memory: the result is stored at the effective address, C, N and Z follow it, and the
instruction after it is next (20_memory.md R48). -/
theorem exec_shiftMem {m : MemMode} {ea : Addr}
    (hmean : meaningOf i.mnemonic i.operand s = onPlace i.operand (shiftOp f) s) (hop : i.operand = .mem m)
    (hea : effectiveAddress m s = .next ea) (hram : s.kindOf ea = .ram) (h : (f s.C (s.peek ea)).Gives v out n) :
    exec i s = .next { s with
      mem := s.mem.write ea.toNat v, C := out, N := n, Z := v == 0, PC := s.PC + BitVec.ofNat 16 i.size } := by
  obtain ⟨rfl, rfl, rfl⟩ := h
  rw [exec_eq_meaningOf, hmean, Instr.size, hop]
  exact modifyMem_eq_next.2 ⟨ea, hea, hram, rfl⟩

end NextState

end Sys2Proof.Machine

namespace Sys2Proof.Proofs

open Sys2Proof.Machine

/-- Settles O32: each of the four mnemonics is its shift, of A or of the byte at the effective address. -/
theorem shiftsMoveOneBit : Obligations.ShiftsMoveOneBit := by
  refine ⟨by simp only [encode, and_self, implies_true], fun s => ⟨?_, ?_, ?_, ?_⟩,
    fun i m s ea hop hea hram => ⟨fun h => ?_, fun h => ?_, fun h => ?_, fun h => ?_⟩⟩
  · exact shiftOp_acc (shiftAsl_gives s.C s.A)
  · exact shiftOp_acc (shiftLsr_gives s.C s.A)
  · exact shiftOp_acc (shiftRol_gives s.C s.A)
  · exact shiftOp_acc (shiftRor_gives s.C s.A)
  · exact exec_shiftMem (by rw [h, meaningOf]) hop hea hram (shiftAsl_gives s.C _)
  · exact exec_shiftMem (by rw [h, meaningOf]) hop hea hram (shiftLsr_gives s.C _)
  · exact exec_shiftMem (by rw [h, meaningOf]) hop hea hram (shiftRol_gives s.C _)
  · exact exec_shiftMem (by rw [h, meaningOf]) hop hea hram (shiftRor_gives s.C _)

end Sys2Proof.Proofs
end

section
/-! SUPPORT. The logical family. The next state of an instruction that only reads its operand, and of AND, ORA and EOR as one
bitwise operation into A; each mnemonic is then one instance. -/

namespace Sys2Proof.Machine

variable {i : Instr} {s : State} {m : Byte} {src : Source}

/-- An instruction whose operation on its operand is a read of the byte `m` changes the state by that byte and goes on. -/
theorem exec_readOp {k : Source → State → Result State} {f : Byte → State → State}
    (hmean : meaningOf i.mnemonic i.operand s = onSource i.operand k s) (hsrc : i.operand.source? = some src)
    (hk : k src s = readOp f src s) (hread : readSource src s = .next m) :
    exec i s = .next ((f m s).advance i.size) := by
  rw [exec_eq_of_source hmean hsrc, hk, Instr.size, ← source?_size hsrc]
  exact readOp_eq_next.2 ⟨m, hread, rfl⟩

/-- A bitwise operation puts its result into A, sets N and Z from it and goes on (44_logical.md R150 to R152). -/
theorem exec_logicOp {f : Byte → Byte → Byte}
    (hmean : meaningOf i.mnemonic i.operand s = onSource i.operand (logicOp f) s)
    (hsrc : i.operand.source? = some src) (hread : readSource src s = .next m) :
    exec i s = .next (((s.setReg .a (f s.A m)).setNZ (f s.A m)).advance i.size) :=
  exec_readOp hmean hsrc rfl hread

/-- BIT with an immediate operand sets Z alone (44_logical.md R153). -/
theorem bitTest_imm (v : Byte) (s : State) : bitTest (.imm v) s = readOp State.setTestZ (.imm v) s := rfl

/-- BIT with a byte of memory sets N and V from the byte too (44_logical.md R153). -/
theorem bitTest_mem (mode : MemMode) (s : State) : bitTest (.mem mode) s = readOp State.setBitFlags (.mem mode) s := rfl

end Sys2Proof.Machine

namespace Sys2Proof.Proofs

open Sys2Proof.Machine

/-- Settles O33: each of the three mnemonics is its bitwise operation into A. -/
theorem bitwiseLogicIntoA : Obligations.BitwiseLogicIntoA := by
  refine ⟨by simp only [encode, and_self, implies_true], fun i src s m hsrc hread =>
    ⟨fun h => ?_, fun h => ?_, fun h => ?_⟩⟩
  · exact exec_logicOp (f := (· &&& ·)) (by rw [h, meaningOf]) hsrc hread
  · exact exec_logicOp (f := (· ||| ·)) (by rw [h, meaningOf]) hsrc hread
  · exact exec_logicOp (f := (· ^^^ ·)) (by rw [h, meaningOf]) hsrc hread

/-- Settles O34: the immediate form sets Z alone, and every memory form sets N and V from the byte it reads. -/
theorem bitTestsAgainstA : Obligations.BitTestsAgainstA := by
  refine ⟨by simp only [encode, and_self, implies_true], fun v s => ?_, fun i mode s v h hop hread => ?_⟩
  · exact exec_readOp (i := .bitImm v) (k := bitTest) rfl rfl (bitTest_imm v s) rfl
  · exact exec_readOp (by rw [h, meaningOf]) (by rw [hop, Operand.source?]) (bitTest_mem mode s) hread

end Sys2Proof.Proofs
end

section
/-! SUPPORT. Branches and jumps. The next state of a branch from its operand byte, said once over its condition, and of
a jump through a pointer; each instruction is then one instance. -/

namespace Sys2Proof.Machine

variable {s : State}

/-- The operand byte of a branch, sign-extended, counts from the next instruction (30_encoding.md R79). -/
theorem branchTarget_toInt (b : Byte) (s : State) : branchTarget b.toInt s = s.PC + 2 + b.signExtend 16 := rfl

/-- A branch goes to its target where its condition holds, and to the next instruction elsewhere (46_flow.md R181). -/
theorem branchOp_toInt {taken : Bool} {cond : Prop} [Decidable cond] (b : Byte) (h : taken = true ↔ cond) :
    branchOp taken b.toInt s =
      .next { s with PC := if cond then s.PC + 2 + b.signExtend 16 else s.PC + 2 } := by
  rw [branchOp_eq_next, branchTarget_toInt]
  cases taken with
  | true =>
    rw [if_pos (h.1 rfl)]
    rfl
  | false =>
    rw [if_neg (mt h.2 Bool.false_ne_true)]
    rfl

/-- A branch on a clear flag is taken just where the flag is 0. -/
theorem branchOp_not_toInt {flag : Bool} (b : Byte) :
    branchOp (!flag) b.toInt s =
      .next { s with PC := if flag = false then s.PC + 2 + b.signExtend 16 else s.PC + 2 } :=
  branchOp_toInt b (iff_of_eq (Bool.not_eq_true' flag))

/-- A jump through a pointer goes to the address that the pointer holds, low byte first (30_encoding.md R81, R84). -/
theorem jumpThrough_of_readByte {p : Addr} {lo hi : Byte} (hlo : readByte p s = .next lo)
    (hhi : readByte (p + 1) s = .next hi) : jumpThrough p s = .next (s.setPC (word16 hi lo)) :=
  andThen_eq_next.2 ⟨_, read16_eq_next.2 ⟨lo, hi, hlo, hhi, rfl⟩, rfl⟩

end Sys2Proof.Machine

namespace Sys2Proof.Proofs

open Sys2Proof.Machine

/-- Settles O43: BRA is always taken, and each of the other eight is the branch on its flag set or on its flag clear. -/
theorem branchesAddTheOffset : Obligations.BranchesAddTheOffset := by
  unfold Obligations.BranchesAddTheOffset
  simp only [encode, rel8_toInt, true_and]
  refine fun b s => ⟨?_, ?_, ?_, ?_, ?_, ?_, ?_, ?_, ?_⟩
  · exact branchOp_eq_next.2 rfl
  · exact branchOp_toInt b Iff.rfl
  · exact branchOp_not_toInt b
  · exact branchOp_not_toInt b
  · exact branchOp_toInt b Iff.rfl
  · exact branchOp_not_toInt b
  · exact branchOp_toInt b Iff.rfl
  · exact branchOp_toInt b Iff.rfl
  · exact branchOp_not_toInt b

/-- Settles O44: the absolute form is its address, and the other two are jumps through their pointer. -/
theorem jumpsSetPC : Obligations.JumpsSetPC := by
  refine ⟨fun _ _ => ⟨rfl, rfl, rfl⟩, fun _ _ => rfl, fun _ _ _ _ hlo hhi => ?_, fun _ _ _ _ hlo hhi => ?_⟩
  · exact jumpThrough_of_readByte hlo hhi
  · exact jumpThrough_of_readByte hlo hhi

end Sys2Proof.Proofs
end

section
/-! SUPPORT. Processor status and NOP. The next state of an instruction that gives one flag a constant, said once over the flag
and the constant; each mnemonic is then one instance. -/

namespace Sys2Proof.Machine

variable {s t : State}

/-- A flag instruction gives its flag the constant and goes on (47_status.md R200 to R206). -/
theorem flagOp_eq_next {f : Flag} {b : Bool} : flagOp f b s = .next t ↔ t = (s.setFlag f b).advance 1 :=
  impliedOp_eq_next

/-- NOP only goes on (49_misc.md R220). -/
theorem execNop_eq_next : execNop s = .next t ↔ t = s.advance 1 :=
  impliedOp_eq_next

end Sys2Proof.Machine

namespace Sys2Proof.Proofs

open Sys2Proof.Machine

/-- Settles O42: each of the seven mnemonics gives its own flag its constant, and NOP only goes on. -/
theorem flagInstructionsAndNop : Obligations.FlagInstructionsAndNop := by
  refine ⟨rfl, rfl, rfl, rfl, rfl, rfl, rfl, rfl, fun s => ⟨?_, ?_, ?_, ?_, ?_, ?_, ?_, ?_⟩⟩
  · exact flagOp_eq_next (f := .c) (b := false).2 rfl
  · exact flagOp_eq_next (f := .d) (b := false).2 rfl
  · exact flagOp_eq_next (f := .i) (b := false).2 rfl
  · exact flagOp_eq_next (f := .v) (b := false).2 rfl
  · exact flagOp_eq_next (f := .c) (b := true).2 rfl
  · exact flagOp_eq_next (f := .d) (b := true).2 rfl
  · exact flagOp_eq_next (f := .i) (b := true).2 rfl
  · exact execNop_eq_next.2 rfl

end Sys2Proof.Proofs
end

section
/-! SUPPORT. Transfers. The next state of a copy between registers, said once over the two registers, and of TXS, the one
transfer that leaves N and Z as they were; each mnemonic is then one instance. -/

namespace Sys2Proof.Machine

variable {s t : State}

/-- A transfer puts the source register's byte into the destination, sets N and Z from it and goes on (48_transfer.md R210 to
R213; 41_stack.md R118). -/
theorem transfer_eq_next {src dst : Reg} :
    transfer src dst s = .next t ↔ t = ((s.setReg dst (s.reg src)).setNZ (s.reg src)).advance 1 :=
  impliedOp_eq_next

/-- TXS puts X into S, writes no flag and goes on (41_stack.md R119). -/
theorem execTxs_eq_next : execTxs s = .next t ↔ t = (s.setReg .s s.X).advance 1 :=
  impliedOp_eq_next

end Sys2Proof.Machine

namespace Sys2Proof.Proofs

open Sys2Proof.Machine

/-- Settles O29: five of the mnemonics are the transfer between their two registers, and TXS is the copy without flags. -/
theorem transfersCopyARegister : Obligations.TransfersCopyARegister := by
  refine ⟨rfl, rfl, rfl, rfl, rfl, rfl, fun s => ⟨?_, ?_, ?_, ?_, ?_, ?_⟩⟩
  · exact transfer_eq_next (src := .a) (dst := .x).2 rfl
  · exact transfer_eq_next (src := .a) (dst := .y).2 rfl
  · exact transfer_eq_next (src := .x) (dst := .a).2 rfl
  · exact transfer_eq_next (src := .y) (dst := .a).2 rfl
  · exact transfer_eq_next (src := .s) (dst := .x).2 rfl
  · exact execTxs_eq_next.2 rfl

end Sys2Proof.Proofs
end

section
/-! SUPPORT. The stack in twos and threes. What pushing and pulling an address, an entry and a return do, said once as next
states of the whole machine. -/

namespace Sys2Proof.Machine

variable {s t : State}

/-! ## Pushing and pulling an address -/

theorem byte_sub_one_sub_one (b : Byte) : b - 1 - 1 = b - 2 := by bv_omega

theorem byte_sub_two_sub_one (b : Byte) : b - 2 - 1 = b - 3 := by bv_omega

/-- Pushing an address stores its high byte where S points and its low byte below, and lowers S by two
(20_memory.md R41). -/
theorem push16_eq_next_state {w : Addr} :
    push16 w s = .next t ↔ s.kindOf (stackAddr s.S) = .ram ∧ s.kindOf (stackAddr (s.S - 1)) = .ram ∧
      t = { s with
        mem := (s.mem.write (stackAddr s.S).toNat (hi8 w)).write (stackAddr (s.S - 1)).toNat (lo8 w), S := s.S - 2 } := by
  simp only [push16_eq_next, push_eq_next]
  rw [← byte_sub_one_sub_one]
  constructor
  · rintro ⟨_, ⟨hhi, rfl⟩, hlo, rfl⟩
    exact ⟨hhi, hlo, rfl⟩
  · rintro ⟨hhi, hlo, rfl⟩
    exact ⟨_, ⟨hhi, rfl⟩, hlo, rfl⟩

theorem byte_add_one_add_one (b : Byte) : b + 1 + 1 = b + 2 := by bv_omega

theorem byte_add_one_add_two (b : Byte) : b + 1 + 2 = b + 3 := by bv_omega

/-- A pull of the byte above S (10_state.md R16). -/
theorem pull_of_readByte {v : Byte} (h : readByte (stackAddr (s.S + 1)) s = .next v) :
    pull s = .next (v, { s with S := s.S + 1 }) :=
  pull_eq_next.2 ⟨h, rfl⟩

/-- Pulling an address reads its low byte above S and its high byte above that, and raises S by two (46_flow.md R183). -/
theorem pull16_of_readByte {lo hi : Byte} (hlo : readByte (stackAddr (s.S + 1)) s = .next lo)
    (hhi : readByte (stackAddr (s.S + 2)) s = .next hi) :
    pull16 s = .next (word16 hi lo, { s with S := s.S + 2 }) := by
  rw [← byte_add_one_add_one] at hhi ⊢
  exact pull16_eq_next.2 ⟨_, _, pull_of_readByte hlo, pull_of_readByte (s := { s with S := s.S + 1 }) hhi, rfl⟩

/-! ## Entries and returns -/

/-- The memory after an entry: the return address, high byte first, and the flags byte are on the stack
(60_exceptions.md R237). -/
def entryMem (ret : Addr) (b : Bool) (s : State) : Memory :=
  ((s.mem.write (stackAddr s.S).toNat (hi8 ret)).write (stackAddr (s.S - 1)).toNat (lo8 ret)).write
    (stackAddr (s.S - 2)).toNat (packP b s)

/-- An entry needs the three stack bytes to be plain memory, reads its pointer after the pushes, and changes the stack, S, I, D
and PC (49_misc.md R221, 60_exceptions.md R237). -/
theorem enterHandler_eq_next_state {ret vector : Addr} {b : Bool} :
    enterHandler ret b vector s = .next t ↔
      s.kindOf (stackAddr s.S) = .ram ∧ s.kindOf (stackAddr (s.S - 1)) = .ram ∧ s.kindOf (stackAddr (s.S - 2)) = .ram ∧
      ∃ handler, read16 vector { s with mem := entryMem ret b s, S := s.S - 3 } = .next handler ∧
        t = { s with mem := entryMem ret b s, S := s.S - 3, I := true, D := false, PC := handler } := by
  simp only [enterHandler_eq_next, push16_eq_next_state, push_eq_next]
  rw [← byte_sub_two_sub_one]
  constructor
  · rintro ⟨_, _, handler, ⟨hhi, hlo, rfl⟩, ⟨hp, rfl⟩, hread, rfl⟩
    exact ⟨hhi, hlo, hp, handler, hread, rfl⟩
  · rintro ⟨hhi, hlo, hp, handler, hread, rfl⟩
    exact ⟨_, _, handler, ⟨hhi, hlo, rfl⟩, ⟨hp, rfl⟩, hread, rfl⟩

/-- A return pulls the flags byte, then the address, which is where control goes (46_flow.md R184). -/
theorem returnFromHandler_of_readByte {p lo hi : Byte} (hp : readByte (stackAddr (s.S + 1)) s = .next p)
    (hlo : readByte (stackAddr (s.S + 2)) s = .next lo) (hhi : readByte (stackAddr (s.S + 3)) s = .next hi) :
    returnFromHandler s = .next { s with
      N := p[7], V := p[6], D := p[3], I := p[2], Z := p[1], C := p[0], S := s.S + 3, PC := word16 hi lo } := by
  have hread (a : Addr) : readByte a ({ s with S := s.S + 1 }.unpackP p) = readByte a s := readByte_eq rfl rfl a
  rw [← byte_add_one_add_one, ← hread] at hlo
  rw [← byte_add_one_add_two, ← hread] at hhi
  rw [← byte_add_one_add_two]
  exact returnFromHandler_eq_next.2 ⟨_, _, pull_of_readByte hp, pull16_of_readByte hlo hhi, rfl⟩

/-! ## Stores -/

/-- The memories that `s` can come to by stores to plain memory at addresses of the list (20_memory.md R40, R46). -/
inductive StoresTo (as : List Addr) (s : State) : Memory → Prop where
  | same : StoresTo as s s.mem
  | write {m : Memory} {a : Addr} (v : Byte) (h : StoresTo as s m) (ha : a ∈ as) (hram : s.kindOf a = .ram) :
      StoresTo as s (m.write a.toNat v)

namespace StoresTo

variable {as : List Addr} {m : Memory}

theorem one {a : Addr} (v : Byte) (hram : s.kindOf a = .ram) : StoresTo [a] s (s.mem.write a.toNat v) :=
  .write v .same (List.mem_singleton_self a) hram

/-- Stores keep the canonical form of memory (20_memory.md R40). -/
theorem wf (h : StoresTo as s m) (hs : s.mem.wf = true) : m.wf = true := by
  induction h with
  | same => exact hs
  | write v _ _ _ ih => exact Memory.wf_write _ _ v (BitVec.isLt _) ih

/-- Stores change no byte at an address that is not in the list or is not plain memory. -/
theorem read_eq (h : StoresTo as s m) {a : Addr} (ha : a ∈ as → s.kindOf a ≠ .ram) :
    m.read a.toNat = s.mem.read a.toNat := by
  induction h with
  | same => rfl
  | @write m b v _ hb hram ih =>
    have hne : a ≠ b := by
      rintro rfl
      exact ha hb hram
    rw [Memory.read_write_ne _ _ _ _ (mt BitVec.eq_of_toNat_eq hne), ih]

end StoresTo

/-! ## What an entry leaves on the stack -/

theorem entryMem_storesTo (ret : Addr) (b : Bool) (hhi : s.kindOf (stackAddr s.S) = .ram)
    (hlo : s.kindOf (stackAddr (s.S - 1)) = .ram) (hp : s.kindOf (stackAddr (s.S - 2)) = .ram) :
    StoresTo [stackAddr s.S, stackAddr (s.S - 1), stackAddr (s.S - 2)] s (entryMem ret b s) :=
  .write _ (.write _ (.write _ .same (by simp) hhi) (by simp) hlo) (by simp) hp

/-- An address of another page is no stack address. -/
theorem stackAddr_ne_of_hi8 {a : Addr} (h : hi8 a ≠ 0x01) (b : Byte) : a ≠ stackAddr b := by
  rintro rfl
  exact h (hi8_word16 _ _)

/-- A pointer outside page 1 reads after the pushes of an entry as before them. -/
theorem read16_entryMem {ret vector : Addr} {b : Bool} (hhi : s.kindOf (stackAddr s.S) = .ram)
    (hlo : s.kindOf (stackAddr (s.S - 1)) = .ram) (hp : s.kindOf (stackAddr (s.S - 2)) = .ram)
    (hv : hi8 vector ≠ 0x01) (hv' : hi8 (vector + 1) ≠ 0x01) :
    read16 vector { s with mem := entryMem ret b s, S := s.S - 3 } = read16 vector s := by
  have hread {a : Addr} (ha : hi8 a ≠ 0x01) :
      readByte a { s with mem := entryMem ret b s, S := s.S - 3 } = readByte a s := by
    have hmem := (entryMem_storesTo ret b hhi hlo hp).read_eq (a := a) (by simp [stackAddr_ne_of_hi8 ha])
    simp only [readByte, State.kindOf, State.peek, hmem]
  rw [read16, hread hv, hread hv', read16]

/-- An entry through a pointer outside page 1, from a stack of plain memory. -/
theorem enterHandler_of_read16 {ret vector handler : Addr} {b : Bool} (hhi : s.kindOf (stackAddr s.S) = .ram)
    (hlo : s.kindOf (stackAddr (s.S - 1)) = .ram) (hp : s.kindOf (stackAddr (s.S - 2)) = .ram)
    (hv : hi8 vector ≠ 0x01) (hv' : hi8 (vector + 1) ≠ 0x01) (hread : read16 vector s = .next handler) :
    enterHandler ret b vector s =
      .next { s with mem := entryMem ret b s, S := s.S - 3, I := true, D := false, PC := handler } :=
  enterHandler_eq_next_state.2 ⟨hhi, hlo, hp, handler, (read16_entryMem hhi hlo hp hv hv').trans hread, rfl⟩

theorem read_write_stackAddr_ne {m : Memory} {a b : Byte} (v : Byte) (h : a ≠ b) :
    (m.write (stackAddr b).toNat v).read (stackAddr a).toNat = m.read (stackAddr a).toNat :=
  Memory.read_write_ne _ _ _ _ (mt BitVec.eq_of_toNat_eq (mt stackAddr_inj.1 h))

theorem entryMem_read_flags (ret : Addr) (b : Bool) :
    (entryMem ret b s).read (stackAddr (s.S - 2)).toNat = packP b s :=
  Memory.read_write_self _ _ _

theorem entryMem_read_lo (ret : Addr) (b : Bool) : (entryMem ret b s).read (stackAddr (s.S - 1)).toNat = lo8 ret := by
  rw [entryMem, read_write_stackAddr_ne _ (by bv_omega), Memory.read_write_self]

theorem entryMem_read_hi (ret : Addr) (b : Bool) : (entryMem ret b s).read (stackAddr s.S).toNat = hi8 ret := by
  rw [entryMem, read_write_stackAddr_ne _ (by bv_omega), read_write_stackAddr_ne _ (by bv_omega), Memory.read_write_self]

/-! ## The flags byte -/

theorem byte_getElem_eq_of_digit {v : Byte} {k : Nat} {b : Bool} (hk : k < 8) (h : v.toNat / 2 ^ k % 2 = bit b) :
    v[k] = b := by
  rw [byte_getElem_eq_decide v k hk, h]
  cases b <;> rfl

/-- The eight bits of the flags byte that is pushed (10_state.md R20). -/
structure FlagBits (p : Byte) (b : Bool) (s : State) : Prop where
  n : p[7] = s.N
  v : p[6] = s.V
  five : p[5] = true
  four : p[4] = b
  d : p[3] = s.D
  i : p[2] = s.I
  z : p[1] = s.Z
  c : p[0] = s.C

theorem packP_flagBits (b : Bool) (s : State) : FlagBits (packP b s) b s := by
  have hN := bit_le_one s.N
  have hV := bit_le_one s.V
  have hB := bit_le_one b
  have hD := bit_le_one s.D
  have hI := bit_le_one s.I
  have hZ := bit_le_one s.Z
  have hC := bit_le_one s.C
  have hone : bit true = 1 := rfl
  constructor <;> refine byte_getElem_eq_of_digit (by decide) ?_ <;> simp only [packP, BitVec.toNat_ofNat] <;> omega

/-- Unpacking the pushed byte gives back the flags it was packed from (10_state.md R22). -/
theorem unpackP_packP (b : Bool) (s t : State) :
    t.unpackP (packP b s) = { t with N := s.N, V := s.V, D := s.D, I := s.I, Z := s.Z, C := s.C } := by
  have h := packP_flagBits b s
  rw [State.unpackP, h.n, h.v, h.d, h.i, h.z, h.c]

/-! ## Calls and returns undone -/

/-- The three stack bytes of an entry are pulled back by the return: all that the entry changed is restored but those bytes
(60_exceptions.md R239). -/
theorem returnFromHandler_enterHandler {ret vector : Addr} {b : Bool} (h : enterHandler ret b vector s = .next t) :
    returnFromHandler t = .next { s with mem := t.mem, PC := ret } := by
  obtain ⟨hhi, hlo, hp, handler, -, rfl⟩ := enterHandler_eq_next_state.1 h
  have hS1 : s.S - 3 + 1 = s.S - 2 := by bv_omega
  have hS2 : s.S - 3 + 2 = s.S - 1 := by bv_omega
  have hS3 : s.S - 3 + 3 = s.S := by bv_omega
  have hbits := packP_flagBits b s
  rw [returnFromHandler_of_readByte (p := packP b s) (lo := lo8 ret) (hi := hi8 ret), hbits.n, hbits.v, hbits.d, hbits.i,
    hbits.z, hbits.c, word16_hi8_lo8, hS3]
  · exact readByte_eq_next.2 ⟨.inl (by rwa [hS1]), by rw [hS1]; exact (entryMem_read_flags ret b).symm⟩
  · exact readByte_eq_next.2 ⟨.inl (by rwa [hS2]), by rw [hS2]; exact (entryMem_read_lo ret b).symm⟩
  · exact readByte_eq_next.2 ⟨.inl (by rwa [hS3]), by rw [hS3]; exact (entryMem_read_hi ret b).symm⟩

/-- Two parts in sequence answer a refusal just where the first does or the second does from it. -/
theorem andThen_eq_refused {α β : Type} {r : Result α} {k : α → Result β} {q : Refusal} :
    andThen r k = .refused q ↔ r = .refused q ∨ ∃ a, r = .next a ∧ k a = .refused q := by
  cases r <;> simp [andThen]

/-- A push stops, where it does, for its address's sake: it never answers the refusal of JSR. -/
theorem push_ne_jsrOverwritesItself (v : Byte) (s : State) : push v s ≠ .refused .jsrOverwritesItself := by
  rw [push, writeByte]
  cases s.kindOf (stackAddr s.S) <;> simp

theorem push16_ne_jsrOverwritesItself (w : Addr) (s : State) : push16 w s ≠ .refused .jsrOverwritesItself := by
  rw [push16, Ne, andThen_eq_refused]
  rintro (h | ⟨u, -, h⟩)
  · exact push_ne_jsrOverwritesItself _ _ h
  · exact push_ne_jsrOverwritesItself _ _ h

/-- The refused case of JSR, by the addresses of its pushes and of its operand (93_implementation_defined.md U9). -/
theorem jsrOverwritesOperand_iff :
    jsrOverwritesOperand s = true ↔
      ∃ p ∈ [stackAddr s.S, stackAddr (s.S - 1)], p = s.PC + 1 ∨ p = s.PC + 2 := by
  simp [jsrOverwritesOperand]

theorem execJsr_of_clear {a : Addr} (h : jsrOverwritesOperand s = false) :
    execJsr a s = andThen (push16 (s.PC + 2) s) fun t => .next (t.setPC a) := by
  simp [execJsr, h]

/-- JSR is refused by this name just where it pushes on its own operand (46_flow.md R182). -/
theorem execJsr_eq_refused {a : Addr} :
    execJsr a s = .refused .jsrOverwritesItself ↔ jsrOverwritesOperand s = true := by
  cases h : jsrOverwritesOperand s with
  | true => simp [execJsr, h]
  | false =>
    rw [execJsr_of_clear h, andThen_eq_refused]
    simp [push16_ne_jsrOverwritesItself]

/-- A JSR that completes pushes the address of its third byte and goes to its operand (46_flow.md R182). -/
theorem execJsr_eq_next {a : Addr} :
    execJsr a s = .next t ↔
      jsrOverwritesOperand s = false ∧ s.kindOf (stackAddr s.S) = .ram ∧ s.kindOf (stackAddr (s.S - 1)) = .ram ∧
      t = { s with
        mem := (s.mem.write (stackAddr s.S).toNat (hi8 (s.PC + 2))).write (stackAddr (s.S - 1)).toNat (lo8 (s.PC + 2))
        S := s.S - 2, PC := a } := by
  cases h : jsrOverwritesOperand s with
  | true => simp [execJsr, h]
  | false =>
    simp only [execJsr_of_clear h, andThen_eq_next, push16_eq_next_state, next_eq_next, true_and]
    constructor
    · rintro ⟨_, ⟨hhi, hlo, rfl⟩, rfl⟩
      exact ⟨hhi, hlo, rfl⟩
    · rintro ⟨hhi, hlo, rfl⟩
      exact ⟨_, ⟨hhi, hlo, rfl⟩, rfl⟩

/-- An RTS pulls the address and goes to the one after it (46_flow.md R183). -/
theorem execRts_of_readByte {lo hi : Byte} (hlo : readByte (stackAddr (s.S + 1)) s = .next lo)
    (hhi : readByte (stackAddr (s.S + 2)) s = .next hi) :
    execRts s = .next { s with S := s.S + 2, PC := word16 hi lo + 1 } := by
  rw [execRts, pull16_of_readByte hlo hhi]
  rfl

/-- The two bytes that a JSR pushed are pulled back by RTS, and one past its third byte is the next instruction
(46_flow.md R182, R183). -/
theorem execRts_execJsr {a : Addr} (h : execJsr a s = .next t) :
    execRts t = .next { s with mem := t.mem, PC := s.PC + 3 } := by
  obtain ⟨-, hhi, hlo, rfl⟩ := execJsr_eq_next.1 h
  have hS1 : s.S - 2 + 1 = s.S - 1 := by bv_omega
  have hS2 : s.S - 2 + 2 = s.S := by bv_omega
  have hPC : s.PC + 2 + 1 = s.PC + 3 := by bv_omega
  have hread : ((s.mem.write (stackAddr s.S).toNat (hi8 (s.PC + 2))).write (stackAddr (s.S - 1)).toNat
      (lo8 (s.PC + 2))).read (stackAddr s.S).toNat = hi8 (s.PC + 2) := by
    rw [read_write_stackAddr_ne _ (by bv_omega), Memory.read_write_self]
  rw [execRts_of_readByte (lo := lo8 (s.PC + 2)) (hi := hi8 (s.PC + 2)), word16_hi8_lo8, hS2, hPC]
  · exact readByte_eq_next.2 ⟨.inl (by rwa [hS1]), by rw [hS1]; exact (Memory.read_write_self _ _ _).symm⟩
  · exact readByte_eq_next.2 ⟨.inl (by rwa [hS2]), by rw [hS2]; exact hread.symm⟩

end Sys2Proof.Machine

namespace Sys2Proof.Proofs

open Sys2Proof.Machine

/-- Settles O22: the eight digits of the packed number are the flags, B and bit 5. -/
theorem flagsByteRoundTrip : Obligations.FlagsByteRoundTrip := fun s t b =>
  have h := packP_flagBits b s
  ⟨h.five, h.four, unpackP_packP b s t⟩

/-- Settles O20: the pointers of IRQ and NMI lie outside page 1, so the pushes leave them as they were. -/
theorem interruptEntersHandler : Obligations.InterruptEntersHandler := by
  refine fun s hhi hlo hp => ⟨fun handler hread => ?_, fun handler hread => ?_⟩
  · exact enterHandler_of_read16 hhi hlo hp (by decide) (by decide) hread
  · exact enterHandler_of_read16 (s := { s with nmiPending := false }) hhi hlo hp (by decide) (by decide) hread

/-- Settles O21: BRK is the entry through the pointer of IRQ with the address two past its opcode and B = 1. -/
theorem brkEntersHandler : Obligations.BrkEntersHandler := fun _ _ hhi hlo hp hread =>
  enterHandler_of_read16 hhi hlo hp (by decide) (by decide) hread

/-- Settles O23: RTI is the return from a handler. -/
theorem rtiPullsFlagsAndPC : Obligations.RtiPullsFlagsAndPC := fun _ _ _ _ hp hlo hhi =>
  returnFromHandler_of_readByte hp hlo hhi

/-- Settles O24: the return pulls back the three bytes that the entry pushed. -/
theorem rtiUndoesEntry : Obligations.RtiUndoesEntry := fun _ _ _ _ _ h => returnFromHandler_enterHandler h

/-- Settles O46: RTS pulls the address and adds one. -/
theorem rtsPullsAndAddsOne : Obligations.RtsPullsAndAddsOne := fun _ _ _ hlo hhi => execRts_of_readByte hlo hhi

/-- Settles O45: the refusal is asked before the pushes, and no push answers it. -/
theorem jsrPushesReturnAddress : Obligations.JsrPushesReturnAddress := by
  refine ⟨fun a s hhi hlo hclear => ?_, fun a s => execJsr_eq_refused.trans jsrOverwritesOperand_iff⟩
  have hfalse : jsrOverwritesOperand s = false := by
    rw [← Bool.not_eq_true, jsrOverwritesOperand_iff]
    rintro ⟨p, hp, hor⟩
    exact hor.elim (hclear p hp).1 (hclear p hp).2
  exact execJsr_eq_next.2 ⟨hfalse, hhi, hlo, rfl⟩

/-- Settles O47: RTS pulls back the two bytes that JSR pushed. -/
theorem rtsUndoesJsr : Obligations.RtsUndoesJsr := fun _ _ _ h => execRts_execJsr h

end Sys2Proof.Proofs
end

section
/-! SUPPORT. What an instruction and a step leave alone. An observation that sees neither registers nor flags is kept by every
instruction, whose stores go to plain memory at the addresses the table of stores gives it; and a step is an event or an
instruction from the state in which its boundary leaves the machine. -/

namespace Sys2Proof.Machine

/-- An observation that sees neither PC, nor a register, nor a flag. -/
structure IgnoresProcessor {α : Type} (obs : State → α) : Prop where
  pc : IgnoresPC obs
  reg : ∀ (r : Reg) (v : Byte) (s : State), obs (s.setReg r v) = obs s
  flag : ∀ (f : Flag) (b : Bool) (s : State), obs (s.setFlag f b) = obs s

/-- An observation that does not see the index of the next free value. -/
def IgnoresDraws {α : Type} (obs : State → α) : Prop := ∀ s, obs s.nextDraw = obs s

namespace IgnoresProcessor

variable {α : Type} {obs : State → α}

theorem setNZ (h : IgnoresProcessor obs) (v : Byte) (s : State) : obs (s.setNZ v) = obs s :=
  (h.flag .z (v == 0) (s.setFlag .n v[7])).trans (h.flag .n v[7] s)

theorem result (h : IgnoresProcessor obs) (r : Reg) : IgnoresResult r obs := fun u v s =>
  (h.setNZ v (s.setReg r u)).trans (h.reg r u s)

theorem unpackP (h : IgnoresProcessor obs) (v : Byte) (s : State) : obs (s.unpackP v) = obs s := by
  change obs ((((((s.setFlag .n v[7]).setFlag .v v[6]).setFlag .d v[3]).setFlag .i v[2]).setFlag .z v[1]).setFlag .c
    v[0]) = _
  simp only [h.flag]

theorem setShiftFlags (h : IgnoresProcessor obs) (x : Shifted) (s : State) : obs (s.setShiftFlags x) = obs s :=
  (h.setNZ x.r _).trans (h.flag .c x.c s)

theorem setCompareFlags (h : IgnoresProcessor obs) (r m : Byte) (s : State) : obs (s.setCompareFlags r m) = obs s :=
  (h.setNZ (r - m) _).trans (h.flag .c _ s)

theorem setTestZ (h : IgnoresProcessor obs) (m : Byte) (s : State) : obs (s.setTestZ m) = obs s := h.flag .z _ s

theorem setBitFlags (h : IgnoresProcessor obs) (m : Byte) (s : State) : obs (s.setBitFlags m) = obs s := by
  rw [State.setBitFlags, h.flag, h.flag, h.setTestZ]

theorem setSum (h : IgnoresProcessor obs) (x : Sum) (s : State) : obs (s.setSum x) = obs s := by
  change obs (((((s.setReg .a x.r).setFlag .n x.n).setFlag .v x.v).setFlag .z x.z).setFlag .c x.c) = _
  simp only [h.flag, h.reg]

theorem addWithCarry (h : IgnoresProcessor obs) {s : State} (hdraw : s.D = true → IgnoresDraws obs) (m : Byte) :
    obs (s.addWithCarry m) = obs s := by
  unfold State.addWithCarry
  split
  next hD => exact (h.setSum _ _).trans (hdraw hD s)
  next => exact h.setSum _ s

theorem subWithBorrow (h : IgnoresProcessor obs) {s : State} (hdraw : s.D = true → IgnoresDraws obs) (m : Byte) :
    obs (s.subWithBorrow m) = obs s := by
  unfold State.subWithBorrow
  split
  next hD => exact (h.setSum _ _).trans (hdraw hD s)
  next => exact h.setSum _ s

theorem shiftOp_keeps (h : IgnoresProcessor obs) {f : Bool → Byte → Shifted} {p : Place} {s : State}
    (hmem : IgnoresMem obs) : Keeps obs s (shiftOp f p s) := by
  cases p with
  | acc => exact shiftOp_acc_keeps h.pc fun v x t => (h.setShiftFlags x _).trans (h.reg .a v t)
  | mem m => exact modifyMem_keeps h.pc hmem fun _ => h.setShiftFlags _

theorem bitTest_keeps (h : IgnoresProcessor obs) {src : Source} {s : State} : Keeps obs s (bitTest src s) := by
  cases src with
  | imm v => exact readOp_keeps h.pc fun v => h.setTestZ v s
  | mem m => exact readOp_keeps h.pc fun v => h.setBitFlags v s

theorem enterHandler_keeps (h : IgnoresProcessor obs) (hmem : IgnoresMem obs) {ret vector : Addr} {b : Bool} {s : State} :
    Keeps obs s (enterHandler ret b vector s) :=
  Machine.enterHandler_keeps h.pc hmem (h.reg .s) fun t => (h.flag .d false _).trans (h.flag .i true t)

end IgnoresProcessor

/-- The mnemonics whose meaning may store to memory (20_memory.md R48). -/
def mayStore : Mnemonic → Bool
  | .sta | .stx | .sty | .stz | .inc | .dec | .trb | .tsb | .asl | .lsr | .rol | .ror
  | .pha | .phx | .phy | .php | .jsr | .brk => true
  | _ => false

/-- What an instruction leaves alone: all but the processor's registers and flags, memory where its mnemonic may store, and the
index of the free values where it is a decimal ADC or SBC. -/
theorem meaningOf_keeps {α : Type} {obs : State → α} {m : Mnemonic} {op : Operand} {s : State} (h : IgnoresProcessor obs)
    (hmem : mayStore m = true → IgnoresMem obs) (hdraw : m = .adc ∨ m = .sbc → s.D = true → IgnoresDraws obs) :
    Keeps obs s (meaningOf m op s) := by
  cases m with
  | lda | ldx | ldy => exact onSource_keeps fun _ => load_keeps h.pc (h.result _)
  | and | ora | eor => exact onSource_keeps fun _ => logicOp_keeps h.pc (h.result _)
  | sta | stx | sty | stz => exact onMem_keeps fun _ => storeOp_keeps h.pc (hmem rfl)
  | pha | phx | phy | php => exact pushOp_keeps h.pc (hmem rfl) (h.reg .s)
  | pla | plx | ply => exact pullReg_keeps h.pc (h.reg .s) (h.result _)
  | plp => exact pullFlags_keeps h.pc (h.reg .s) h.unpackP
  | tsx | tax | tay | txa | tya => exact transfer_keeps h.pc (h.result _)
  | ina | inx | iny => exact stepReg_keeps (f := (· + 1)) h.pc (h.result _)
  | dea | dex | dey => exact stepReg_keeps (f := (· - 1)) h.pc (h.result _)
  | txs => exact impliedOp_keeps h.pc fun t => h.reg .s _ t
  | inc | dec => exact onMem_keeps fun _ => modifyMem_keeps h.pc (hmem rfl) fun _ => h.setNZ _
  | asl | lsr | rol | ror => exact onPlace_keeps fun _ => h.shiftOp_keeps (hmem rfl)
  | bit => exact onSource_keeps fun _ => h.bitTest_keeps
  | cmp | cpx | cpy => exact onSource_keeps fun _ => readOp_keeps h.pc fun v => h.setCompareFlags _ v s
  | trb | tsb => exact onMem_keeps fun _ => modifyMem_keeps h.pc (hmem rfl) h.setTestZ
  | adc => exact onSource_keeps fun _ => readOp_keeps h.pc fun v => h.addWithCarry (hdraw (.inl rfl)) v
  | sbc => exact onSource_keeps fun _ => readOp_keeps h.pc fun v => h.subWithBorrow (hdraw (.inr rfl)) v
  | jmp => exact jump_keeps h.pc
  | jsr => exact onAbs_keeps fun _ => execJsr_keeps h.pc (hmem rfl) (h.reg .s)
  | rts => exact execRts_keeps h.pc (h.reg .s)
  | rti => exact returnFromHandler_keeps h.pc (h.reg .s) h.unpackP
  | bra | beq | bne | bcc | bcs | bvc | bvs | bmi | bpl => exact onRel_keeps fun _ => branchOp_keeps h.pc
  | clc | cld | cli | clv | sec | sed | sei => exact impliedOp_keeps h.pc fun t => h.flag _ _ t
  | nop => exact impliedOp_keeps h.pc fun _ => rfl
  | brk => exact h.enterHandler_keeps (hmem rfl)

/-! ## The fields that instructions leave alone -/

theorem mem_ignoresProcessor : IgnoresProcessor State.mem :=
  ⟨fun a s => setPC_mem s a, fun r v s => setReg_mem s r v, fun f b s => setFlag_mem s f b⟩

theorem draws_ignoresProcessor : IgnoresProcessor State.draws :=
  ⟨fun a s => setPC_draws s a, fun r v s => setReg_draws s r v, fun f b s => setFlag_draws s f b⟩

/-- What only Env and the events change: the request lines, Env's inputs to come and the memory map. -/
def State.outside (s : State) : Bool × Bool × List EnvInput × List Region := (s.irqLine, s.nmiPending, s.env, s.memMap)

theorem outside_ignoresProcessor : IgnoresProcessor State.outside where
  pc _ _ := rfl
  reg r _ _ := by cases r <;> rfl
  flag f _ _ := by cases f <;> rfl

variable {s t u : State} {i : Instr}

/-- No instruction touches what only Env and the events change (60_exceptions.md R232, 20_memory.md R46). -/
theorem exec_outside (h : exec i s = .next t) :
    t.irqLine = s.irqLine ∧ t.nmiPending = s.nmiPending ∧ t.env = s.env ∧ t.memMap = s.memMap := by
  rw [exec_eq_meaningOf] at h
  have hout : t.outside = s.outside :=
    meaningOf_keeps outside_ignoresProcessor (fun _ _ _ _ => rfl) (fun _ _ _ => rfl) t h
  simpa only [State.outside, Prod.mk.injEq] using hout

/-- Only a decimal ADC or SBC uses up a free value (45_math.md R169). -/
theorem exec_keepsDraws (h : s.D = false ∨ i.mnemonic ≠ .adc ∧ i.mnemonic ≠ .sbc) :
    Keeps State.draws s (exec i s) := by
  rw [exec_eq_meaningOf]
  refine meaningOf_keeps draws_ignoresProcessor (fun _ _ _ _ => rfl) fun hm hD => ?_
  obtain hbinary | ⟨hadc, hsbc⟩ := h
  · exact absurd (hbinary.symm.trans hD) Bool.false_ne_true
  · exact absurd hm (not_or.2 ⟨hadc, hsbc⟩)

theorem meaningOf_keepsMem {m : Mnemonic} {op : Operand} (hm : mayStore m = false) :
    Keeps State.mem s (meaningOf m op s) :=
  meaningOf_keeps mem_ignoresProcessor (fun h => absurd (hm.symm.trans h) Bool.false_ne_true) fun _ _ _ => rfl

/-! ## The stores of an instruction -/

namespace StoresTo

variable {as bs : List Addr} {m : Memory}

theorem of_mem_eq (h : t.mem = s.mem) : StoresTo as s t.mem := h ▸ .same

/-- The stores that a state allows depend on its memory and its memory map alone. -/
theorem congr (h : StoresTo as s m) (hmem : s.mem = t.mem) (hmap : s.memMap = t.memMap) : StoresTo as t m := by
  induction h with
  | same => exact hmem ▸ .same
  | write v _ ha hram ih => exact .write v ih ha (kindOf_eq hmap _ ▸ hram)

end StoresTo

/-- A completed operation over a byte of memory stored at its effective address alone. -/
def StoresAtMode (m : MemMode) (s : State) (r : Result State) : Prop :=
  ∀ t, r = .next t → ∃ ea, effectiveAddress m s = .next ea ∧ StoresTo [ea] s t.mem

theorem storeOp_storesAtMode {v : Byte} {m : MemMode} : StoresAtMode m s (storeOp v m s) := by
  intro t h
  obtain ⟨ea, hea, hram, rfl⟩ := storeOp_eq_next.1 h
  exact ⟨ea, hea, .one v hram⟩

theorem modifyMem_storesAtMode {f : Byte → Byte} {flags : Byte → State → State} {m : MemMode}
    (hf : ∀ v t, (flags v t).mem = t.mem) : StoresAtMode m s (modifyMem f flags m s) := by
  intro t h
  obtain ⟨ea, hea, hram, rfl⟩ := modifyMem_eq_next.1 h
  rw [advance_mem, hf]
  exact ⟨ea, hea, .one _ hram⟩

theorem operandAddresses_of_mem {m : MemMode} {ea : Addr} (hop : i.operand = .mem m)
    (hea : effectiveAddress m s = .next ea) : operandAddresses i s = [ea] := by
  simp only [operandAddresses, hop, hea]

theorem onMem_storesTo {k : MemMode → State → Result State} (hk : ∀ m, StoresAtMode m s (k m s))
    (h : onMem i.operand k s = .next t) : StoresTo (operandAddresses i s) s t.mem := by
  cases hop : i.operand with
  | mem m =>
    rw [hop] at h
    obtain ⟨ea, hea, hst⟩ := hk m t h
    rwa [operandAddresses_of_mem hop hea]
  | imp | acc | imm | rel | ind | iax =>
    rw [hop] at h
    cases h
    exact .same

theorem onPlace_storesTo {f : Bool → Byte → Shifted} (h : onPlace i.operand (shiftOp f) s = .next t) :
    StoresTo (operandAddresses i s) s t.mem := by
  cases hop : i.operand with
  | mem m =>
    rw [hop] at h
    obtain ⟨ea, hea, hst⟩ := modifyMem_storesAtMode (fun _ _ => setShiftFlags_mem _ _) t h
    rwa [operandAddresses_of_mem hop hea]
  | imp | acc | imm | rel | ind | iax =>
    rw [hop] at h
    cases h
    exact .same

theorem pushOp_storesTo {v : Byte} (h : pushOp v s = .next t) : StoresTo [stackAddr s.S] s t.mem := by
  obtain ⟨hram, rfl⟩ := pushOp_eq_next.1 h
  exact .one v hram

theorem execJsr_storesTo {a : Addr} (h : execJsr a s = .next t) :
    StoresTo [stackAddr s.S, stackAddr (s.S - 1)] s t.mem := by
  obtain ⟨-, hhi, hlo, rfl⟩ := execJsr_eq_next.1 h
  exact .write _ (.write _ .same (by simp) hhi) (by simp) hlo

theorem onAbs_storesTo {k : Addr → State → Result State} {as : List Addr} {op : Operand}
    (hk : ∀ a, k a s = .next t → StoresTo as s t.mem) (h : onAbs op k s = .next t) : StoresTo as s t.mem := by
  unfold onAbs at h
  split at h
  · exact hk _ h
  · cases h
    exact .same

theorem enterHandler_storesTo {ret vector : Addr} {b : Bool} (h : enterHandler ret b vector s = .next t) :
    StoresTo [stackAddr s.S, stackAddr (s.S - 1), stackAddr (s.S - 2)] s t.mem := by
  obtain ⟨hhi, hlo, hp, _, -, rfl⟩ := enterHandler_eq_next_state.1 h
  exact entryMem_storesTo ret b hhi hlo hp

/-- The table of stored addresses is complete: an instruction changes memory by stores to plain memory at those addresses
alone (20_memory.md R48). -/
theorem exec_storesTo (h : exec i s = .next t) : StoresTo (storedAddresses i s) s t.mem := by
  rw [exec_eq_meaningOf] at h
  unfold storedAddresses
  generalize i.mnemonic = m at h ⊢
  cases m with
  | sta | stx | sty | stz => exact onMem_storesTo (fun _ => storeOp_storesAtMode) h
  | inc | dec => exact onMem_storesTo (fun _ => modifyMem_storesAtMode fun _ _ => setNZ_mem _ _) h
  | trb | tsb => exact onMem_storesTo (fun _ => modifyMem_storesAtMode fun _ _ => setTestZ_mem _ _) h
  | asl | lsr | rol | ror => exact onPlace_storesTo h
  | pha | phx | phy | php => exact pushOp_storesTo h
  | jsr => exact onAbs_storesTo (fun _ => execJsr_storesTo) h
  | brk => exact enterHandler_storesTo h
  | _ => exact .of_mem_eq (meaningOf_keepsMem rfl t h)

/-! ## The step -/

/-- The state from which what comes next at a boundary starts. -/
def Boundary.state : Boundary → State
  | .reset u | .nmi u | .irq u | .instruction u => u

/-- What comes next starts from the state with Env's input taken in, but for the index of the free values. -/
theorem boundary_state_keeps {α : Type} {obs : State → α} (h : IgnoresDraws obs) (s : State) :
    obs (boundary s).state = obs (sampleEnv s) := by
  obtain ⟨-, hb⟩ | ⟨-, -, hb⟩ | ⟨-, -, hb⟩ := boundary_cases s
  · rw [hb, Boundary.state]
  · rw [hb, takenRequest]
    split
    · split <;> exact h _
    · exact h _
  · rw [hb, Boundary.state]

@[simp] theorem boundary_state_mem (s : State) : (boundary s).state.mem = s.mem :=
  (boundary_state_keeps (obs := State.mem) (fun _ => rfl) s).trans (sampleEnv_mem s)

@[simp] theorem boundary_state_memMap (s : State) : (boundary s).state.memMap = s.memMap :=
  (boundary_state_keeps (obs := State.memMap) (fun _ => rfl) s).trans (sampleEnv_memMap s)

@[simp] theorem boundary_state_I (s : State) : (boundary s).state.I = s.I :=
  (boundary_state_keeps (obs := State.I) (fun _ => rfl) s).trans (sampleEnv_I s)

theorem sampleEnv_env (s : State) : (sampleEnv s).env = s.env.tail := by
  unfold sampleEnv
  split <;> simp [*]

@[simp] theorem boundary_state_env (s : State) : (boundary s).state.env = s.env.tail :=
  (boundary_state_keeps (obs := State.env) (fun _ => rfl) s).trans (sampleEnv_env s)

/-- RESET, NMI or IRQ takes the machine from `u` to `t`. -/
def IsEvent (u t : State) : Prop := resetEvent u = .next t ∨ nmiEvent u = .next t ∨ irqEvent u = .next t

/-- A step is an event, or an instruction that is fetched and executed (60_exceptions.md R233). -/
theorem step_cases (h : step s = .next t) :
    ((∀ u, boundary s ≠ .instruction u) ∧ IsEvent (boundary s).state t) ∨
      ∃ i, boundary s = .instruction (boundary s).state ∧ fetch (boundary s).state = .next i ∧
        exec i (boundary s).state = .next t := by
  unfold step at h
  cases hb : boundary s with
  | reset u =>
    rw [hb] at h
    exact .inl ⟨nofun, .inl h⟩
  | nmi u =>
    rw [hb] at h
    exact .inl ⟨nofun, .inr (.inl h)⟩
  | irq u =>
    rw [hb] at h
    exact .inl ⟨nofun, .inr (.inr h)⟩
  | instruction u =>
    rw [hb] at h
    obtain ⟨i, hf, he⟩ := runInstruction_eq_next.1 h
    exact .inr ⟨i, rfl, hf, he⟩

/-- RESET takes PC from its pointer, sets I, clears D and the NMI latch, and draws what it leaves open
(70_reset_and_hazards.md R260). -/
theorem resetEvent_eq_next :
    resetEvent s = .next t ↔ ∃ start, read16 resetVector s = .next start ∧
      t = { s.nextDraw.drawReset (Config.resetDraw s.draws) with
        I := true, D := false, nmiPending := false, PC := start } := by
  simp only [resetEvent, andThen_eq_next, next_eq_next]

/-- An event sets I and leaves the memory map and Env's inputs as they were. -/
theorem IsEvent.frame (h : IsEvent u t) : t.I = true ∧ t.memMap = u.memMap ∧ t.env = u.env := by
  obtain h | h | h := h
  · obtain ⟨_, -, rfl⟩ := resetEvent_eq_next.1 h
    exact ⟨rfl, rfl, rfl⟩
  · obtain ⟨-, -, -, _, -, rfl⟩ := enterHandler_eq_next_state.1 h
    exact ⟨rfl, rfl, rfl⟩
  · obtain ⟨-, -, -, _, -, rfl⟩ := enterHandler_eq_next_state.1 h
    exact ⟨rfl, rfl, rfl⟩

/-- RESET stores nothing, and an entry stores on the stack. -/
theorem IsEvent.storesTo (h : IsEvent u t) : ∃ as, StoresTo as u t.mem := by
  obtain h | h | h := h
  · obtain ⟨_, -, rfl⟩ := resetEvent_eq_next.1 h
    exact ⟨[], .same⟩
  · exact ⟨_, (enterHandler_storesTo h).congr rfl rfl⟩
  · exact ⟨_, enterHandler_storesTo h⟩

/-- Whatever comes next at the boundary, a step changes memory by stores to plain memory alone. -/
theorem step_storesTo (h : step s = .next t) : ∃ as, StoresTo as s t.mem := by
  have hu : ∃ as, StoresTo as (boundary s).state t.mem := by
    obtain ⟨-, hev⟩ | ⟨i, -, -, he⟩ := step_cases h
    · exact hev.storesTo
    · exact ⟨_, exec_storesTo he⟩
  obtain ⟨as, hst⟩ := hu
  exact ⟨as, hst.congr (boundary_state_mem s) (boundary_state_memMap s)⟩

/-! ## The interrupt disable flag -/

theorem mnemonic_of_i_mem_flagsWritten (h : Flag.i ∈ flagsWritten i) :
    i.mnemonic = .cli ∨ i.mnemonic = .sei ∨ i.mnemonic = .plp ∨ i.mnemonic = .rti ∨ i.mnemonic = .brk := by
  unfold flagsWritten at h
  generalize i.mnemonic = m at h ⊢
  generalize i.operand = op at h
  cases m with
  | bit => cases op <;> simp at h
  | _ => simp at h ⊢

/-- An instruction that changes I is one of five (10_state.md R18). -/
theorem mnemonic_of_I_ne (h : exec i s = .next t) (hne : t.I ≠ s.I) :
    i.mnemonic = .cli ∨ i.mnemonic = .sei ∨ i.mnemonic = .plp ∨ i.mnemonic = .rti ∨ i.mnemonic = .brk :=
  mnemonic_of_i_mem_flagsWritten (not_imp_comm.1 (fun hi => exec_keepsFlag hi t h) hne)

theorem I_of_cli (hm : i.mnemonic = .cli) (h : exec i s = .next t) : t.I = false := by
  rw [exec_eq_meaningOf, hm] at h
  rw [flagOp_eq_next.1 h]
  rfl

theorem I_of_sei (hm : i.mnemonic = .sei) (h : exec i s = .next t) : t.I = true := by
  rw [exec_eq_meaningOf, hm] at h
  rw [flagOp_eq_next.1 h]
  rfl

theorem I_of_brk (hm : i.mnemonic = .brk) (h : exec i s = .next t) : t.I = true := by
  rw [exec_eq_meaningOf, hm] at h
  obtain ⟨-, -, -, _, -, rfl⟩ := enterHandler_eq_next_state.1 h
  rfl

/-- Of the five, SEI and BRK do not clear I (60_exceptions.md R236). -/
theorem mnemonic_of_clears_I (h : exec i s = .next t) (hs : s.I = true) (ht : t.I = false) :
    i.mnemonic = .cli ∨ i.mnemonic = .plp ∨ i.mnemonic = .rti := by
  obtain hm | hm | hm | hm | hm := mnemonic_of_I_ne h (by simp [hs, ht])
  · exact .inl hm
  · simp [I_of_sei hm h] at ht
  · exact .inr (.inl hm)
  · exact .inr (.inr hm)
  · simp [I_of_brk hm h] at ht

/-- Of the five, CLI does not set I (60_exceptions.md R236). -/
theorem mnemonic_of_sets_I (h : exec i s = .next t) (hs : s.I = false) (ht : t.I = true) :
    i.mnemonic = .sei ∨ i.mnemonic = .plp ∨ i.mnemonic = .rti ∨ i.mnemonic = .brk := by
  obtain hm | hm := mnemonic_of_I_ne h (by simp [hs, ht])
  · simp [I_of_cli hm h] at ht
  · exact hm

end Sys2Proof.Machine

namespace Sys2Proof.Proofs

open Sys2Proof.Machine

/-- Settles O10: a step changes memory by stores alone, and a store keeps the canonical form. -/
theorem stepKeepsMemoryCanonical : Obligations.StepKeepsMemoryCanonical := by
  intro s t hwf h
  obtain ⟨as, hst⟩ := step_storesTo h
  exact hst.wf hwf

/-- Settles O12: the stores of a step go to plain memory. -/
theorem stepKeepsUnwritableBytes : Obligations.StepKeepsUnwritableBytes := by
  intro s t a h hkind
  obtain ⟨as, hst⟩ := step_storesTo h
  exact hst.read_eq fun _ => hkind

/-- Settles O52: an instruction stores at the addresses of the table alone. -/
theorem onlyStoredBytesChange : Obligations.OnlyStoredBytesChange := fun _ _ _ _ h ha =>
  (exec_storesTo h).read_eq fun hmem => absurd hmem ha

/-- Settles O54: the four fields see no register and no flag, and only a decimal sum draws. -/
theorem instructionsLeaveTheRestAlone : Obligations.InstructionsLeaveTheRestAlone := by
  intro i s t h
  obtain ⟨hirq, hnmi, henv, hmap⟩ := exec_outside h
  exact ⟨hirq, hnmi, henv, hmap, fun hd => exec_keepsDraws hd t h⟩

/-- Settles O11: the boundary takes in the next of Env's inputs, and what comes next takes none. -/
theorem stepKeepsPlatform : Obligations.StepKeepsPlatform := by
  intro s t h
  have hu : t.memMap = (boundary s).state.memMap ∧ t.env = (boundary s).state.env := by
    obtain ⟨-, hev⟩ | ⟨i, -, -, he⟩ := step_cases h
    · exact hev.frame.2
    · obtain ⟨-, -, henv, hmap⟩ := exec_outside he
      exact ⟨hmap, henv⟩
  simpa using hu

/-- Settles O55: an event sets I, and an instruction that changes I is one of five. -/
theorem interruptDisableChangesOnlyHere : Obligations.InterruptDisableChangesOnlyHere := by
  intro s t h
  rw [← boundary_state_I s]
  obtain ⟨hno, hev⟩ | ⟨i, hb, hf, he⟩ := step_cases h
  · refine ⟨fun _ ht => ?_, fun _ _ => .inl hno⟩
    rw [hev.frame.1] at ht
    exact absurd ht nofun
  · refine ⟨fun hu ht => ⟨_, i, hb, hf, ?_⟩, fun hu ht => .inr ⟨_, i, hb, hf, ?_⟩⟩
    · exact mnemonic_of_clears_I he hu ht
    · exact mnemonic_of_sets_I he hu ht

end Sys2Proof.Proofs
end

section
/-! SUPPORT. Progress. Which bytes start an instruction, what an access of each kind of address answers, where every instruction
completes, and where it goes on to. -/

namespace Sys2Proof.Machine

/-! ## Undefined opcodes -/

/-- Among 256 bytes that are all different there is every byte. -/
theorem mem_of_nodup_of_length {l : List Byte} (hnodup : l.Nodup) (hlen : l.length = 256) (b : Byte) : b ∈ l := by
  by_contra hb
  have hmap : ((b :: l).map BitVec.toNat).Nodup := (List.nodup_cons.2 ⟨hb, hnodup⟩).map fun _ _ => BitVec.eq_of_toNat_eq
  have hsub : (b :: l).map BitVec.toNat ⊆ List.range 256 := fun n hn => by
    obtain ⟨c, -, rfl⟩ := List.mem_map.1 hn
    exact List.mem_range.2 c.isLt
  have hle := (List.subperm_of_subset hmap hsub).length_le
  simp [hlen] at hle

theorem findRow_eq_none_iff {b : Byte} : findRow b = none ↔ b ∉ opcodeRows.map (·.opcode) := by
  simp [findRow, List.find?_eq_none]

theorem undefinedOpcodes_nodup : undefinedOpcodes.Nodup := (freshFrom_spec (seen := 0) (by decide)).2

theorem findRow_of_undefined {b : Byte} (h : b ∈ undefinedOpcodes) : findRow b = none := by
  have hall : undefinedOpcodes.all (fun b => (findRow b).isNone) = true := by decide
  simpa using List.all_eq_true.1 hall b h

/-- The 178 opcode bytes and the 78 undefined ones are all different, so together they are every byte (30_encoding.md R66). -/
theorem findRow_eq_none {b : Byte} : findRow b = none ↔ b ∈ undefinedOpcodes := by
  refine ⟨fun h => ?_, findRow_of_undefined⟩
  have hnodup : (opcodeRows.map (·.opcode) ++ undefinedOpcodes).Nodup :=
    List.nodup_append'.2 ⟨opcodes_nodup, undefinedOpcodes_nodup,
      fun c hc hu => findRow_eq_none_iff.1 (findRow_of_undefined hu) hc⟩
  have hlen : (opcodeRows.map (·.opcode) ++ undefinedOpcodes).length = 256 := by
    have hrows : opcodeRows.length = 178 := rfl
    have hundefined : undefinedOpcodes.length = 78 := rfl
    rw [List.length_append, List.length_map, hrows, hundefined]
  exact (List.mem_append.1 (mem_of_nodup_of_length hnodup hlen b)).resolve_left (findRow_eq_none_iff.1 h)

/-- Three bytes are enough for every format, so they decode just where the first has a row (30_encoding.md R60). -/
theorem decode_three_bytes {b x y : Byte} : (∃ i rest, decode [b, x, y] = .ok (i, rest)) ↔ findRow b ≠ none := by
  cases hrow : findRow b with
  | none => simp [decode, hrow]
  | some row => cases hformat : row.format <;> simp [decode, hrow, hformat, Format.size]

/-- The fetch of an undefined byte is refused by the byte's name (30_encoding.md R66). -/
theorem fetch_of_undefined {s : State} {b : Byte} (hread : readByte s.PC s = .next b) (h : b ∈ undefinedOpcodes) :
    fetch s = .refused (.undefinedOpcode b) := by
  rw [fetch, hread, andThen_next, findRow_of_undefined h]

/-! ## Where every instruction completes -/

/-- The part of a step answers a value. -/
def Completes {α : Type} (r : Result α) : Prop := ∃ a, r = .next a

theorem completes_next {α : Type} (a : α) : Completes (.next a) := ⟨a, rfl⟩

theorem andThen_completes {α β : Type} {r : Result α} {k : α → Result β} (hr : Completes r)
    (hk : ∀ a, Completes (k a)) : Completes (andThen r k) := by
  obtain ⟨a, rfl⟩ := hr
  exact hk a

namespace AllPlain

variable {s : State}

theorem readByte_eq_peek (hs : AllPlain s) (a : Addr) : readByte a s = .next (s.peek a) := readByte_of_ram (hs a)

theorem read16_completes (hs : AllPlain s) (a : Addr) : Completes (read16 a s) :=
  ⟨_, read16_eq_next.2 ⟨_, _, hs.readByte_eq_peek _, hs.readByte_eq_peek _, rfl⟩⟩

theorem read16ZP_completes (hs : AllPlain s) (zp : Byte) : Completes (read16ZP zp s) :=
  ⟨_, read16ZP_eq_next.2 ⟨_, _, hs.readByte_eq_peek _, hs.readByte_eq_peek _, rfl⟩⟩

theorem effectiveAddress_completes (hs : AllPlain s) (m : MemMode) : Completes (effectiveAddress m s) := by
  cases m with
  | zpg | zpx | zpy | abs | abx | aby => exact completes_next _
  | izx | izp => exact hs.read16ZP_completes _
  | izy => exact andThen_completes (hs.read16ZP_completes _) fun _ => completes_next _

theorem readOp_completes (hs : AllPlain s) {f : Byte → State → State} {src : Source} : Completes (readOp f src s) := by
  cases src with
  | imm v => exact completes_next _
  | mem m =>
    obtain ⟨ea, hea⟩ := hs.effectiveAddress_completes m
    exact ⟨_, readOp_eq_next.2 ⟨_, readSource_mem_eq_next.2 ⟨ea, hea, hs.readByte_eq_peek ea⟩, rfl⟩⟩

theorem storeOp_completes (hs : AllPlain s) {v : Byte} {m : MemMode} : Completes (storeOp v m s) := by
  obtain ⟨ea, hea⟩ := hs.effectiveAddress_completes m
  exact ⟨_, storeOp_eq_next.2 ⟨ea, hea, hs ea, rfl⟩⟩

theorem modifyMem_completes (hs : AllPlain s) {f : Byte → Byte} {flags : Byte → State → State} {m : MemMode} :
    Completes (modifyMem f flags m s) := by
  obtain ⟨ea, hea⟩ := hs.effectiveAddress_completes m
  exact ⟨_, modifyMem_eq_next.2 ⟨ea, hea, hs ea, rfl⟩⟩

theorem pushOp_completes (hs : AllPlain s) {v : Byte} : Completes (pushOp v s) := ⟨_, pushOp_eq_next.2 ⟨hs _, rfl⟩⟩

theorem andThen_pull_completes (hs : AllPlain s) {k : Byte × State → Result State} (hk : ∀ p, Completes (k p)) :
    Completes (andThen (pull s) k) :=
  andThen_completes ⟨_, pull_of_readByte (hs.readByte_eq_peek _)⟩ hk

theorem jumpThrough_completes (hs : AllPlain s) {p : Addr} : Completes (jumpThrough p s) :=
  andThen_completes (hs.read16_completes p) fun _ => completes_next _

theorem execJsr_completes (hs : AllPlain s) (h : jsrOverwritesOperand s = false) (a : Addr) : Completes (execJsr a s) :=
  ⟨_, execJsr_eq_next.2 ⟨h, hs _, hs _, rfl⟩⟩

theorem execRts_completes (hs : AllPlain s) : Completes (execRts s) :=
  ⟨_, execRts_of_readByte (hs.readByte_eq_peek _) (hs.readByte_eq_peek _)⟩

theorem returnFromHandler_completes (hs : AllPlain s) : Completes (returnFromHandler s) :=
  ⟨_, returnFromHandler_of_readByte (hs.readByte_eq_peek _) (hs.readByte_eq_peek _) (hs.readByte_eq_peek _)⟩

theorem enterHandler_completes (hs : AllPlain s) {ret vector : Addr} {b : Bool} :
    Completes (enterHandler ret b vector s) := by
  have hpushed : AllPlain { s with mem := entryMem ret b s, S := s.S - 3 } := hs
  obtain ⟨handler, hread⟩ := hpushed.read16_completes vector
  exact ⟨_, enterHandler_eq_next_state.2 ⟨hs _, hs _, hs _, handler, hread, rfl⟩⟩

end AllPlain

section Completion

variable {s : State} {op : Operand}

theorem onSource_completes {k : Source → State → Result State} (h : ∀ src, Completes (k src s)) :
    Completes (onSource op k s) := by
  unfold onSource
  split
  · exact h _
  · exact completes_next s

theorem onPlace_completes {k : Place → State → Result State} (h : ∀ p, Completes (k p s)) :
    Completes (onPlace op k s) := by
  unfold onPlace
  split
  · exact h _
  · exact completes_next s

theorem onMem_completes {k : MemMode → State → Result State} (h : ∀ m, Completes (k m s)) :
    Completes (onMem op k s) := by
  cases op with
  | mem m => exact h m
  | imp | acc | imm | rel | ind | iax => exact completes_next s

theorem onRel_completes {k : Int → State → Result State} (h : ∀ d, Completes (k d s)) : Completes (onRel op k s) := by
  cases op with
  | rel d => exact h d
  | imp | acc | imm | mem | ind | iax => exact completes_next s

theorem onAbs_completes {k : Addr → State → Result State} (h : ∀ a, Completes (k a s)) : Completes (onAbs op k s) := by
  unfold onAbs
  split
  · exact h _
  · exact completes_next s

theorem AllPlain.jump_completes (hs : AllPlain s) : Completes (jump op s) := by
  unfold jump
  split
  · exact completes_next _
  · exact hs.jumpThrough_completes
  · exact hs.jumpThrough_completes
  · exact completes_next s

theorem AllPlain.shiftOp_completes (hs : AllPlain s) {f : Bool → Byte → Shifted} (p : Place) :
    Completes (shiftOp f p s) := by
  cases p with
  | acc => exact completes_next _
  | mem m => exact hs.modifyMem_completes

theorem AllPlain.bitTest_completes (hs : AllPlain s) (src : Source) : Completes (bitTest src s) := by
  cases src with
  | imm v => exact hs.readOp_completes
  | mem m => exact hs.readOp_completes

/-- Nothing but the refused JSR keeps an instruction from completing where every address is plain memory
(60_exceptions.md R231, 46_flow.md R182). -/
theorem AllPlain.meaningOf_completes (hs : AllPlain s) {m : Mnemonic} (h : m = .jsr → jsrOverwritesOperand s = false) :
    Completes (meaningOf m op s) := by
  cases m with
  | lda | ldx | ldy | and | ora | eor | cmp | cpx | cpy | adc | sbc => exact onSource_completes fun _ => hs.readOp_completes
  | bit => exact onSource_completes hs.bitTest_completes
  | sta | stx | sty | stz => exact onMem_completes fun _ => hs.storeOp_completes
  | inc | dec | trb | tsb => exact onMem_completes fun _ => hs.modifyMem_completes
  | asl | lsr | rol | ror => exact onPlace_completes hs.shiftOp_completes
  | pha | phx | phy | php => exact hs.pushOp_completes
  | pla | plx | ply | plp => exact hs.andThen_pull_completes fun _ => completes_next _
  | jmp => exact hs.jump_completes
  | jsr => exact onAbs_completes (hs.execJsr_completes (h rfl))
  | rts => exact hs.execRts_completes
  | rti => exact hs.returnFromHandler_completes
  | brk => exact hs.enterHandler_completes
  | bra | beq | bne | bcc | bcs | bvc | bvs | bmi | bpl => exact onRel_completes fun _ => completes_next _
  | tsx | txs | tax | tay | txa | tya | ina | inx | iny | dea | dex | dey | clc | cld | cli | clv | sec | sed | sei | nop =>
    exact completes_next _

end Completion

/-! ## Where an instruction goes on to -/

/-- A completed operation went on to the address `n` bytes after its own (10_state.md R14). -/
def AdvancesBy (n : Nat) (s : State) (r : Result State) : Prop := ∀ t, r = .next t → t.PC = s.PC + BitVec.ofNat 16 n

section Advance

variable {s : State} {op : Operand}

theorem advancesBy_next {n : Nat} {u : State} (h : u.PC = s.PC) : AdvancesBy n s (.next (u.advance n)) := by
  rintro _ ⟨⟩
  rw [advance_PC, h]

theorem andThen_advancesBy {α : Type} {r : Result α} {k : α → Result State} {n : Nat}
    (h : ∀ a, r = .next a → AdvancesBy n s (k a)) : AdvancesBy n s (andThen r k) := by
  intro t ht
  obtain ⟨a, ha, hk⟩ := andThen_eq_next.1 ht
  exact h a ha t hk

theorem readOp_advancesBy {f : Byte → State → State} {src : Source} (hf : ∀ v, (f v s).PC = s.PC) :
    AdvancesBy src.size s (readOp f src s) :=
  andThen_advancesBy fun v _ => advancesBy_next (hf v)

theorem storeOp_advancesBy {v : Byte} {m : MemMode} : AdvancesBy m.size s (storeOp v m s) := by
  intro t ht
  obtain ⟨ea, -, -, rfl⟩ := storeOp_eq_next.1 ht
  rfl

theorem modifyMem_advancesBy {f : Byte → Byte} {flags : Byte → State → State} {m : MemMode}
    (hf : ∀ v t, (flags v t).PC = t.PC) : AdvancesBy m.size s (modifyMem f flags m s) := by
  intro t ht
  obtain ⟨ea, -, -, rfl⟩ := modifyMem_eq_next.1 ht
  rw [advance_PC, hf, poke_PC]

theorem pushOp_advancesBy {v : Byte} : AdvancesBy 1 s (pushOp v s) := by
  intro t ht
  obtain ⟨-, rfl⟩ := pushOp_eq_next.1 ht
  rfl

theorem andThen_pull_advancesBy {k : Byte × State → State} (hk : ∀ p, (k p).PC = p.2.PC) :
    AdvancesBy 1 s (andThen (pull s) fun p => .next ((k p).advance 1)) := by
  refine andThen_advancesBy fun p hp => advancesBy_next ?_
  rw [hk, (pull_eq_next.1 hp).2, setReg_PC]

theorem onSource_advancesBy {k : Source → State → Result State} (hfits : op.source?.isSome = true)
    (h : ∀ src, AdvancesBy src.size s (k src s)) : AdvancesBy op.format.size s (onSource op k s) := by
  obtain ⟨src, hsrc⟩ := Option.isSome_iff_exists.1 hfits
  rw [onSource, hsrc, ← source?_size hsrc]
  exact h src

theorem onPlace_advancesBy {k : Place → State → Result State} (hfits : op.place?.isSome = true)
    (h : ∀ p, AdvancesBy p.size s (k p s)) : AdvancesBy op.format.size s (onPlace op k s) := by
  obtain ⟨p, hp⟩ := Option.isSome_iff_exists.1 hfits
  rw [onPlace, hp, ← place?_size hp]
  exact h p

theorem onMem_advancesBy {k : MemMode → State → Result State} (hfits : operandFits .sta op = true)
    (h : ∀ m, AdvancesBy m.size s (k m s)) : AdvancesBy op.format.size s (onMem op k s) := by
  cases op with
  | mem m => exact h m
  | imp | acc | imm | rel | ind | iax => cases hfits

theorem shiftOp_advancesBy {f : Bool → Byte → Shifted} (p : Place) : AdvancesBy p.size s (shiftOp f p s) := by
  cases p with
  | acc => exact advancesBy_next rfl
  | mem m => exact modifyMem_advancesBy fun _ t => setShiftFlags_PC t _

theorem bitTest_advancesBy (src : Source) : AdvancesBy src.size s (bitTest src s) := by
  cases src with
  | imm v => exact readOp_advancesBy fun v => setTestZ_PC s v
  | mem m => exact readOp_advancesBy fun v => setBitFlags_PC s v

theorem addWithCarry_PC (m : Byte) (s : State) : (s.addWithCarry m).PC = s.PC := by
  unfold State.addWithCarry
  split <;> rfl

theorem subWithBorrow_PC (m : Byte) (s : State) : (s.subWithBorrow m).PC = s.PC := by
  unfold State.subWithBorrow
  split <;> rfl

/-- Every instruction that is no control transfer goes on to the next one (10_state.md R14). -/
theorem exec_advancesBy {i : Instr} (h : assignsPC i = false) : AdvancesBy i.size s (exec i s) := by
  have hfits := operandFits_operand i
  rw [exec_eq_meaningOf, Instr.size]
  unfold assignsPC at h
  generalize i.mnemonic = m at h hfits ⊢
  generalize i.operand = op at hfits ⊢
  cases m with
  | lda | ldx | ldy | and | ora | eor | cmp | cpx | cpy =>
    exact onSource_advancesBy hfits fun _ => readOp_advancesBy fun _ => rfl
  | adc => exact onSource_advancesBy hfits fun _ => readOp_advancesBy fun v => addWithCarry_PC v s
  | sbc => exact onSource_advancesBy hfits fun _ => readOp_advancesBy fun v => subWithBorrow_PC v s
  | bit => exact onSource_advancesBy hfits bitTest_advancesBy
  | sta | stx | sty | stz => exact onMem_advancesBy hfits fun _ => storeOp_advancesBy
  | inc | dec | trb | tsb => exact onMem_advancesBy hfits fun _ => modifyMem_advancesBy fun _ _ => rfl
  | asl | lsr | rol | ror => exact onPlace_advancesBy hfits shiftOp_advancesBy
  | pha | phx | phy | php =>
    cases eq_of_beq hfits
    exact pushOp_advancesBy
  | pla | plx | ply | plp =>
    cases eq_of_beq hfits
    exact andThen_pull_advancesBy fun _ => rfl
  | tsx | txs | tax | tay | txa | tya | ina | inx | iny | dea | dex | dey | clc | cld | cli | clv | sec | sed | sei | nop =>
    cases eq_of_beq hfits
    exact advancesBy_next rfl
  | jmp | jsr | rts | rti | brk | bra | beq | bne | bcc | bcs | bvc | bvs | bmi | bpl => cases h

end Advance

/-! ## The boundary -/

section Boundaries

variable {s : State}

/-- A read of a pointer depends on memory and the memory map alone. -/
theorem read16_eq {t : State} (hmem : t.mem = s.mem) (hmap : t.memMap = s.memMap) (a : Addr) : read16 a t = read16 a s := by
  rw [read16, readByte_eq hmem hmap, readByte_eq hmem hmap, read16]

theorem sampleEnv_of_cons {e : EnvInput} {later : List EnvInput} (h : s.env = e :: later) :
    sampleEnv s = { s with irqLine := e.irqLine, nmiPending := (s.nmiPending || e.nmi), env := later } := by
  simp only [sampleEnv, h]

theorem step_of_resetAsserted (h : resetAsserted s = true) : step s = resetEvent (sampleEnv s) := by
  simp only [step, boundary, h, if_true]

/-- A request that is present and unmasked is taken, NMI before IRQ, or one more instruction runs, as the free choice says
(60_exceptions.md R233, R238). -/
theorem step_of_requestPresent (hreset : resetAsserted s = false) (hreq : requestPresent (sampleEnv s) = true) :
    step s =
      if Config.honours (sampleEnv s).draws then
        if (sampleEnv s).nmiPending then nmiEvent (sampleEnv s).nextDraw else irqEvent (sampleEnv s).nextDraw
      else runInstruction (sampleEnv s).nextDraw := by
  rw [step, boundary, hreset, hreq, takenRequest, nextDraw_nmiPending]
  cases Config.honours (sampleEnv s).draws <;> cases (sampleEnv s).nmiPending <;> rfl

theorem step_of_no_request (hreset : resetAsserted s = false) (hreq : requestPresent (sampleEnv s) = false) :
    step s = runInstruction (sampleEnv s) := by
  simp [step, boundary, hreset, hreq]

end Boundaries

end Sys2Proof.Machine

namespace Sys2Proof.Proofs

open Sys2Proof.Machine

/-- Settles O4: the bytes with a row are all but the 78. -/
theorem definedOpcodes : Obligations.DefinedOpcodes := fun _ _ _ => decode_three_bytes.trans (not_congr findRow_eq_none)

/-- Settles O5: the fetch is refused, so nothing is executed. -/
theorem undefinedOpcodeRefused : Obligations.UndefinedOpcodeRefused := by
  intro s b hread h
  rw [runInstruction, fetch_of_undefined hread h, andThen_refused]

/-- Settles O15: each shared operation completes on plain memory. -/
theorem everyInstructionCompletesOnPlainMemory : Obligations.EveryInstructionCompletesOnPlainMemory := by
  intro i s hs hjsr
  rw [exec_eq_meaningOf]
  exact hs.meaningOf_completes hjsr

/-- Settles O53: each shared operation advances by the size of its operand's format. -/
theorem straightLineAdvancesPC : Obligations.StraightLineAdvancesPC := fun _ _ t h hstraight =>
  exec_advancesBy hstraight t h

/-- Settles O13: the byte is stored, and every other address keeps its byte and its kind. -/
theorem readAfterWrite : Obligations.ReadAfterWrite := by
  intro s a b v hram
  refine ⟨s.poke a v, writeByte_eq_next.2 ⟨hram, rfl⟩, readByte_eq_next.2 ⟨.inl hram, ?_⟩, fun hne => ?_⟩
  · exact (peek_poke_self a v s).symm
  · rw [readByte, readByte, peek_poke_ne v s hne]
    rfl

/-- Settles O14: an access asks the kind of its address first. -/
theorem meaninglessAccessStops : Obligations.MeaninglessAccessStops := by
  refine fun s a v => ⟨fun h => ?_, fun h => ?_, fun h => ?_⟩ <;> simp only [readByte, writeByte, h, and_self]

/-- Settles O18: the next input sets the line and may set the latch; without one the state is as it was. -/
theorem envInputTakenIn : Obligations.EnvInputTakenIn := by
  refine ⟨fun s h => ?_, fun s e later h => sampleEnv_of_cons h⟩
  simp only [sampleEnv, h]

/-- Settles O8: the pointer of RESET in blank memory is two blank bytes. -/
theorem resetStateAsTabulated : Obligations.ResetStateAsTabulated := ⟨rfl, rfl, rfl, rfl⟩

/-- Settles O9: a memory that lists no byte is canonical. -/
theorem resetMemoryCanonical : Obligations.ResetMemoryCanonical := rfl

/-- Settles O17: RESET is first at the boundary, and its event starts from the state with Env's input taken in. -/
theorem resetEventTaken : Obligations.ResetEventTaken := by
  intro s e later start henv hreset hread
  have hasserted : resetAsserted s = true := by simp only [resetAsserted, henv, hreset]
  have hread' : read16 resetVector (sampleEnv s) = .next start :=
    (read16_eq (sampleEnv_mem s) (sampleEnv_memMap s) _).trans hread
  refine ⟨_, (step_of_resetAsserted hasserted).trans (resetEvent_eq_next.2 ⟨start, hread', rfl⟩), rfl, rfl, rfl, rfl, ?_⟩
  rw [sampleEnv_of_cons henv]
  exact ⟨rfl, rfl, rfl, rfl⟩

/-- Settles O19: what is pending and unmasked is asked about at the boundary, NMI first. -/
theorem requestsByPriorityAndMask : Obligations.RequestsByPriorityAndMask := by
  rintro s t hreset rfl
  refine ⟨fun hnmi => ?_, fun hnmi hirq hI => ?_, fun hnmi hmasked => ?_⟩
  · have hreq : requestPresent (sampleEnv s) = true := by rw [requestPresent, hnmi, Bool.true_or]
    rw [step_of_requestPresent hreset hreq, if_pos hnmi]
  · have hreq : requestPresent (sampleEnv s) = true := by
      rw [requestPresent, irqEligible, hnmi, hirq, hI]
      rfl
    simp only [step_of_requestPresent hreset hreq, hnmi, Bool.false_eq_true, if_false]
  · have hreq : requestPresent (sampleEnv s) = false := by
      rw [requestPresent, irqEligible, hnmi]
      obtain hirq | hI := hmasked
      · rw [hirq]
        rfl
      · rw [hI, Bool.not_true, Bool.and_false]
        rfl
    exact step_of_no_request hreset hreq

end Sys2Proof.Proofs
end

section
/-! SUPPORT. Compares, TRB and TSB, and the sums. The next state of each over its operand, and the binary and decimal results as
numbers. -/

namespace Sys2Proof.Machine

variable {i : Instr} {s : State}

/-! ## Compares, TRB and TSB -/

/-- A difference is zero just where the bytes are equal. -/
theorem sub_beq_zero (r m : Byte) : (r - m == 0) = decide (r = m) := by
  rw [Bool.eq_iff_iff, beq_iff_eq, decide_eq_true_eq, sub_eq_zero]

/-- A compare writes N, Z and C from the unsigned difference and goes on (44_logical.md R154 to R156). -/
theorem exec_compare {r : Reg} {src : Source} {m : Byte}
    (hmean : meaningOf i.mnemonic i.operand s = onSource i.operand (compare r) s)
    (hsrc : i.operand.source? = some src) (hread : readSource src s = .next m) :
    exec i s = .next { s with
      C := decide (m.toNat ≤ (s.reg r).toNat), Z := decide (s.reg r = m), N := (s.reg r - m)[7]
      PC := s.PC + BitVec.ofNat 16 i.size } := by
  rw [exec_readOp hmean hsrc rfl hread, ← sub_beq_zero]
  rfl

/-- TRB and TSB store the changed byte, take Z from the old one and go on (44_logical.md R157, R158). -/
theorem exec_testAndChange {f : Byte → Byte → Byte} {m : MemMode} {ea : Addr}
    (hmean : meaningOf i.mnemonic i.operand s = onMem i.operand (testAndChange f) s) (hop : i.operand = .mem m)
    (hea : effectiveAddress m s = .next ea) (hram : s.kindOf ea = .ram) :
    exec i s = .next (((s.poke ea (f s.A (s.peek ea))).setTestZ (s.peek ea)).advance i.size) := by
  rw [exec_eq_of_mem hmean hop, Instr.size, hop]
  exact modifyMem_eq_next.2 ⟨ea, hea, hram, rfl⟩

/-! ## Binary sums -/

/-- Bit 7 of a byte says that its number is at least 128 (00_scope.md section 5). -/
theorem byte_sign (v : Byte) : v[7] = true ↔ 128 ≤ v.toNat := by
  have hlt := v.isLt
  rw [byte_getElem_eq_decide v 7 (by decide), decide_eq_true_eq]
  omega

/-- The test of bit 7 that the overflow bit ends in: both pairs differ in sign (45_math.md R165, R166). -/
theorem signs_differ (a b c d : Byte) :
    ((a ^^^ b) &&& (c ^^^ d) &&& 0x80 != 0) = true ↔
      ¬ (128 ≤ a.toNat ↔ 128 ≤ b.toNat) ∧ ¬ (128 ≤ c.toNat ↔ 128 ≤ d.toNat) := by
  have hbit : ∀ x : Byte, (x &&& 0x80 != 0) = x[7] := fun x => by
    rw [show (0x80 : Byte) = BitVec.twoPow 8 7 from rfl, BitVec.and_twoPow, BitVec.getLsbD_eq_getElem (by decide)]
    cases x[7] <;> rfl
  have hxor : ∀ x y : Byte, (x ^^^ y)[7] = true ↔ ¬ (128 ≤ x.toNat ↔ 128 ≤ y.toNat) := fun x y => by
    rw [BitVec.getElem_xor, Bool.xor_iff_ne, Ne, Bool.eq_iff_iff, byte_sign, byte_sign]
  rw [hbit, BitVec.getElem_and, Bool.and_eq_true, hxor, hxor]

/-- A byte as a signed number, by its sign. -/
theorem byte_toInt (v : Byte) : (v.toNat < 128 ∧ v.toInt = v.toNat) ∨ (128 ≤ v.toNat ∧ v.toInt = v.toNat - 256) := by
  have hlt := v.isLt
  rw [BitVec.toInt_eq_toNat_cond]
  split <;> omega

/-- The overflow bit of a binary addition is two's complement overflow (45_math.md R165). -/
theorem addBinary_v (a m : Byte) (c : Bool) :
    (addBinary a m c).v = true ↔ ¬ (-128 ≤ a.toInt + m.toInt + bit c ∧ a.toInt + m.toInt + bit c ≤ 127) := by
  have hr : (BitVec.ofNat 8 (a.toNat + m.toNat + bit c)).toNat = (a.toNat + m.toNat + bit c) % 256 := BitVec.toNat_ofNat _ _
  have hc := bit_le_one c
  have ha := a.isLt
  have hm := m.isLt
  rw [addBinary, signs_differ, hr]
  obtain ⟨hsa, hia⟩ | ⟨hsa, hia⟩ := byte_toInt a <;> obtain ⟨hsm, him⟩ | ⟨hsm, him⟩ := byte_toInt m <;>
    rw [hia, him] <;> omega

/-- The overflow bit of a binary subtraction is two's complement overflow (45_math.md R166). -/
theorem subBinary_v (a m : Byte) (c : Bool) :
    (subBinary a m c).v = true ↔
      ¬ (-128 ≤ a.toInt - m.toInt - (1 - bit c) ∧ a.toInt - m.toInt - (1 - bit c) ≤ 127) := by
  have hr : (BitVec.ofNat 8 (a.toNat + (255 - m.toNat) + bit c)).toNat = (a.toNat + (255 - m.toNat) + bit c) % 256 :=
    BitVec.toNat_ofNat _ _
  have hc := bit_le_one c
  have ha := a.isLt
  have hm := m.isLt
  rw [subBinary, signs_differ, hr]
  obtain ⟨hsa, hia⟩ | ⟨hsa, hia⟩ := byte_toInt a <;> obtain ⟨hsm, him⟩ | ⟨hsm, him⟩ := byte_toInt m <;>
    rw [hia, him] <;> omega

/-- The sum byte, modulo 256 (45_math.md R165). -/
theorem addBinary_r (a m : Byte) (c : Bool) : (addBinary a m c).r = a + m + BitVec.ofNat 8 (bit c) := by
  simp [addBinary, BitVec.ofNat_add]

/-- The adder fed the one's complement gives the difference modulo 256, less the borrow (45_math.md R166). -/
theorem subBinary_r (a m : Byte) (c : Bool) : (subBinary a m c).r = a - m - BitVec.ofNat 8 (1 - bit c) := by
  have hc := bit_le_one c
  have hm := m.isLt
  apply BitVec.eq_of_toNat_eq
  simp only [subBinary, BitVec.toNat_sub, BitVec.toNat_ofNat]
  omega

/-- The carry of the adder is "no borrow" (45_math.md R166). -/
theorem subBinary_c (a m : Byte) (c : Bool) : (subBinary a m c).c = decide (m.toNat + (1 - bit c) ≤ a.toNat) := by
  have hc := bit_le_one c
  have hm := m.isLt
  simp only [subBinary, decide_eq_decide]
  omega

/-- The binary sum, with its flags as facts about numbers (45_math.md R165). -/
theorem addBinary_eq (a m : Byte) (c : Bool) :
    addBinary a m c =
      { r := a + m + BitVec.ofNat 8 (bit c), n := (a + m + BitVec.ofNat 8 (bit c))[7]
        v := decide (a.toInt + m.toInt + bit c < -128 ∨ 127 < a.toInt + m.toInt + bit c)
        z := a + m + BitVec.ofNat 8 (bit c) == 0, c := decide (256 ≤ a.toNat + m.toNat + bit c) } := by
  have hv : (addBinary a m c).v = decide (a.toInt + m.toInt + bit c < -128 ∨ 127 < a.toInt + m.toInt + bit c) := by
    rw [Bool.eq_iff_iff, addBinary_v, decide_eq_true_eq]
    omega
  rw [← addBinary_r, ← hv]
  rfl

/-- The binary difference, with its flags as facts about numbers (45_math.md R166). -/
theorem subBinary_eq (a m : Byte) (c : Bool) :
    subBinary a m c =
      { r := a - m - BitVec.ofNat 8 (1 - bit c), n := (a - m - BitVec.ofNat 8 (1 - bit c))[7]
        v := decide (a.toInt - m.toInt - (1 - bit c) < -128 ∨ 127 < a.toInt - m.toInt - (1 - bit c))
        z := a - m - BitVec.ofNat 8 (1 - bit c) == 0, c := decide (m.toNat + (1 - bit c) ≤ a.toNat) } := by
  have hv : (subBinary a m c).v =
      decide (a.toInt - m.toInt - (1 - bit c) < -128 ∨ 127 < a.toInt - m.toInt - (1 - bit c)) := by
    rw [Bool.eq_iff_iff, subBinary_v, decide_eq_true_eq]
    omega
  rw [← subBinary_r, ← subBinary_c, ← hv]
  rfl

/-- ADC over a known operand (45_math.md R165, R167). -/
theorem exec_adc {src : Source} {m : Byte} (hm : i.mnemonic = .adc) (hsrc : i.operand.source? = some src)
    (hread : readSource src s = .next m) : exec i s = .next ((s.addWithCarry m).advance i.size) :=
  exec_readOp (k := adc) (by rw [hm, meaningOf]) hsrc rfl hread

/-- SBC over a known operand (45_math.md R166, R168). -/
theorem exec_sbc {src : Source} {m : Byte} (hm : i.mnemonic = .sbc) (hsrc : i.operand.source? = some src)
    (hread : readSource src s = .next m) : exec i s = .next ((s.subWithBorrow m).advance i.size) :=
  exec_readOp (k := sbc) (by rw [hm, meaningOf]) hsrc rfl hread

/-! ## Decimal sums -/

theorem addWithCarry_decimal (hD : s.D = true) (m : Byte) :
    s.addWithCarry m = s.nextDraw.setSum (addDecimal s.A m s.C (Config.bcdDraw s.draws)) := if_pos hD

theorem subWithBorrow_decimal (hD : s.D = true) (m : Byte) :
    s.subWithBorrow m = s.nextDraw.setSum (subDecimal s.A m s.C (Config.bcdDraw s.draws)) := if_pos hD

theorem addWithCarry_binary (hD : s.D = false) (m : Byte) : s.addWithCarry m = s.setSum (addBinary s.A m s.C) :=
  if_neg (by simp [hD])

theorem subWithBorrow_binary (hD : s.D = false) (m : Byte) : s.subWithBorrow m = s.setSum (subBinary s.A m s.C) :=
  if_neg (by simp [hD])

section Decimal

variable {a m : Byte} {c : Bool} {draw : BcdDraw}

theorem decOf_le (h : validBcd a = true) : decOf a ≤ 99 := by
  simp only [validBcd, Bool.and_eq_true, decide_eq_true_eq] at h
  unfold decOf
  omega

/-- The BCD byte of a number below 100 is valid and stands for it (45_math.md R167). -/
theorem bcdOf_valid {n : Nat} (h : n < 100) : validBcd (bcdOf n) = true ∧ decOf (bcdOf n) = n := by
  have hn : (bcdOf n).toNat = 16 * (n / 10) + n % 10 := by
    rw [bcdOf, BitVec.toNat_ofNat, Nat.mod_eq_of_lt (by omega)]
  simp only [validBcd, decOf, hn, Bool.and_eq_true, decide_eq_true_eq]
  omega

/-- The decimal sum of valid operands (45_math.md R167). -/
theorem addDecimal_of_valid (ha : validBcd a = true) (hm : validBcd m = true) :
    addDecimal a m c draw =
      { r := bcdOf ((decOf a + decOf m + bit c) % 100), n := (bcdOf ((decOf a + decOf m + bit c) % 100))[7], v := draw.v
        z := bcdOf ((decOf a + decOf m + bit c) % 100) == 0, c := decide (100 ≤ decOf a + decOf m + bit c) } := by
  rw [addDecimal, ha, hm]
  rfl

/-- The decimal difference of valid operands, without negative numbers (45_math.md R168). -/
theorem subDecimal_of_valid (ha : validBcd a = true) (hm : validBcd m = true) :
    subDecimal a m c draw =
      { r := bcdOf ((decOf a + 100 - decOf m - (1 - bit c)) % 100)
        n := (bcdOf ((decOf a + 100 - decOf m - (1 - bit c)) % 100))[7], v := draw.v
        z := bcdOf ((decOf a + 100 - decOf m - (1 - bit c)) % 100) == 0
        c := decide (decOf m + (1 - bit c) ≤ decOf a) } := by
  have hc := bit_le_one c
  have hle := decOf_le hm
  have hdiff : (((decOf a : Int) - decOf m - (1 - bit c)) % 100).toNat =
      (decOf a + 100 - decOf m - (1 - bit c)) % 100 := by omega
  have hborrow : (0 ≤ (decOf a : Int) - decOf m - (1 - bit c)) ↔ decOf m + (1 - bit c) ≤ decOf a := by omega
  simp only [subDecimal, ha, hm, Bool.and_self, if_true, hdiff, hborrow]

theorem bit_decide (p : Prop) [Decidable p] : bit (decide p) = if p then 1 else 0 := by
  by_cases h : p <;> simp [bit, h]

/-- The decimal sum is valid BCD, and exact with its carry as a hundred (45_math.md R167). -/
theorem addDecimal_exact (ha : validBcd a = true) (hm : validBcd m = true) :
    validBcd (addDecimal a m c draw).r = true ∧
      decOf (addDecimal a m c draw).r + 100 * bit (addDecimal a m c draw).c = decOf a + decOf m + bit c := by
  have hc := bit_le_one c
  have hda := decOf_le ha
  have hdm := decOf_le hm
  obtain ⟨hvalid, hdec⟩ := bcdOf_valid (Nat.mod_lt (decOf a + decOf m + bit c) (by decide : 0 < 100))
  rw [addDecimal_of_valid ha hm, bit_decide, hdec]
  refine ⟨hvalid, ?_⟩
  split <;> omega

/-- The decimal difference is valid BCD, and exact with its borrow as a hundred (45_math.md R168). -/
theorem subDecimal_exact (ha : validBcd a = true) (hm : validBcd m = true) :
    validBcd (subDecimal a m c draw).r = true ∧
      decOf (subDecimal a m c draw).r + decOf m + (1 - bit c) =
        decOf a + 100 * (1 - bit (subDecimal a m c draw).c) := by
  have hc := bit_le_one c
  have hda := decOf_le ha
  have hdm := decOf_le hm
  obtain ⟨hvalid, hdec⟩ := bcdOf_valid (Nat.mod_lt (decOf a + 100 - decOf m - (1 - bit c)) (by decide : 0 < 100))
  rw [subDecimal_of_valid ha hm, bit_decide, hdec]
  refine ⟨hvalid, ?_⟩
  split <;> omega

/-- Where an operand is not valid BCD every output is drawn (45_math.md R167, R168 case 2). -/
theorem decimal_of_not_valid (h : validBcd a = false ∨ validBcd m = false) :
    addDecimal a m c draw = drawnSum draw ∧ subDecimal a m c draw = drawnSum draw := by
  have hand : (validBcd a && validBcd m) = false := by
    obtain h | h := h <;> simp [h]
  simp [addDecimal, subDecimal, hand]

end Decimal

end Sys2Proof.Machine

namespace Sys2Proof.Proofs

open Sys2Proof.Machine

/-- Settles O35: each of the three mnemonics is the compare of its register. -/
theorem comparesAreUnsigned : Obligations.ComparesAreUnsigned := by
  refine fun i src s m hsrc hread => ⟨fun h => ?_, fun h => ?_, fun h => ?_⟩
  · exact exec_compare (r := .a) (by rw [h, meaningOf]) hsrc hread
  · exact exec_compare (r := .x) (by rw [h, meaningOf]) hsrc hread
  · exact exec_compare (r := .y) (by rw [h, meaningOf]) hsrc hread

/-- Settles O36: each of the two mnemonics is the change of the byte at the effective address. -/
theorem testAndChangeBits : Obligations.TestAndChangeBits := by
  refine fun i m s ea hop hea hram => ⟨fun h => ?_, fun h => ?_⟩
  · exact exec_testAndChange (f := fun acc v => v &&& ~~~acc) (by rw [h, meaningOf]) hop hea hram
  · exact exec_testAndChange (f := fun acc v => v ||| acc) (by rw [h, meaningOf]) hop hea hram

/-- Settles O38: the sign of the result modulo 256 is wrong just where the signed result leaves its range. -/
theorem overflowIsSigned : Obligations.OverflowIsSigned := fun a m c => ⟨addBinary_v a m c, subBinary_v a m c⟩

/-- Settles O37: with D = 0 the state takes the binary sum, whose byte and flags are those of the numbers. -/
theorem binaryAddAndSubtract : Obligations.BinaryAddAndSubtract := by
  refine fun i src s m hsrc hread hD => ⟨fun h => ?_, fun h => ?_⟩
  · rw [exec_adc h hsrc hread, addWithCarry_binary hD, addBinary_eq]
    rfl
  · rw [exec_sbc h hsrc hread, subWithBorrow_binary hD, subBinary_eq]
    rfl

/-- Settles O39: with D = 1 the state takes the decimal sum of the valid operands, and V is the drawn one. -/
theorem decimalAddAndSubtract : Obligations.DecimalAddAndSubtract := by
  refine fun i src s m hsrc hread hD ha hm => ⟨fun h => ⟨(Config.bcdDraw s.draws).v, ?_⟩,
    fun h => ⟨(Config.bcdDraw s.draws).v, ?_⟩⟩
  · rw [exec_adc h hsrc hread, addWithCarry_decimal hD, addDecimal_of_valid ha hm]
    rfl
  · rw [exec_sbc h hsrc hread, subWithBorrow_decimal hD, subDecimal_of_valid ha hm]
    rfl

/-- Settles O40: with D = 1 and an operand that is not BCD the state takes the five drawn values. -/
theorem decimalWithoutBcdOperands : Obligations.DecimalWithoutBcdOperands := by
  intro i src s m hsrc hread hD hbcd hmn
  obtain ⟨hadd, hsub⟩ := decimal_of_not_valid (c := s.C) (draw := Config.bcdDraw s.draws) hbcd
  refine ⟨(Config.bcdDraw s.draws).a, (Config.bcdDraw s.draws).n, (Config.bcdDraw s.draws).v,
    (Config.bcdDraw s.draws).z, (Config.bcdDraw s.draws).c, ?_⟩
  obtain h | h := hmn
  · rw [exec_adc h hsrc hread, addWithCarry_decimal hD, hadd]
    rfl
  · rw [exec_sbc h hsrc hread, subWithBorrow_decimal hD, hsub]
    rfl

/-- Settles O41: the BCD byte of a number below 100 stands for that number. -/
theorem decimalResultsExact : Obligations.DecimalResultsExact := by
  intro a m c draw ha hm
  obtain ⟨haddValid, hadd⟩ := addDecimal_exact (c := c) (draw := draw) ha hm
  exact ⟨haddValid, hadd, subDecimal_exact ha hm⟩

end Sys2Proof.Proofs
end
